-- ==== Sys2Proof/Word.lean ====
section
/-! DEFINITION. The two word types of the CORE: the 8-bit byte and the 16-bit address (R8, R10). -/

namespace Sys2Proof

/-- A `u8` of R10: the data width of the CORE and of every memory cell (R8). -/
abbrev Byte := BitVec 8

/-- A `u16` of R10: the address width of the CORE (R8). -/
abbrev Addr := BitVec 16

end Sys2Proof
end

