-- ==== Sys2Proof/Config.lean ====
section
/-! DEFINITION. The named parameters of R9 at the value the spec decides, and the creation values that R9 leaves to the
host, each named in a log entry. No rule of the spec leaves a result open, so there is no free value here. -/

namespace Sys2Proof

/-- `JMP_IND_PAGE_WRAP` (R9, R113, 92 D2): the CORE reads the target's high byte at `(ptr + 1) mod 2^16`.
The other reading is the `true` argument of `jmpIndHighAddr`. Log entry 10. -/
def Config.jmpIndPageWrap : Bool := false

/-- `RTI_IMPLEMENTED` (R9, R252, 92 D1): opcode 0x40 is RTI. The other reading is the `false` argument of
`decodeOpFor`. Log entry 11. -/
def Config.rtiImplemented : Bool := true

/-- `CYCLE_MIN` (R9, R32, 92 D11). -/
def Config.cycleMin : Int := -2147483648

/-- `CYCLE_MAX` (R9, R32, 92 D11). -/
def Config.cycleMax : Int := 2147483647

/-- `INIT_SP` (R9, R37): 0xFF unless the host supplies another value. -/
def Config.initSP : Byte := 0xFF

/-- `INIT_PC` (R9, R37) is caller-supplied; reset names 0x0000, where the scenarios of 95 start. DESIGN CHOICE, unsafe,
log entry 2. -/
def Config.initPC : Addr := 0x0000

/-- `INIT_A` (R9, R37, 92 D10) may be any byte; reset names 0x00. DESIGN CHOICE, unsafe, log entry 1. -/
def Config.initA : Byte := 0x00

/-- `INIT_X` (R9, R37, 92 D10) may be any byte; reset names 0x00. DESIGN CHOICE, unsafe, log entry 1. -/
def Config.initX : Byte := 0x00

/-- `INIT_Y` (R9, R37, 92 D10) may be any byte; reset names 0x00. DESIGN CHOICE, unsafe, log entry 1. -/
def Config.initY : Byte := 0x00

end Sys2Proof
end

