-- ==== Sys2Proof/Syntax.lean ====
section
/-! DEFINITION. The 151 documented instructions (R3, R73), one constructor per row of spec/opcode_table.json, with the
operand fields of R71 and R72: imm8, zp8 and disp8 are bytes, addr, base and ptr are 16-bit words. -/

namespace Sys2Proof

/-- An instruction: its opcode row as the constructor, its operand field as the argument. Every operand value is legal
(R75). -/
inductive Instr where
  /-- 00 IMP: `BRK` (R253). -/
  | brk
  /-- 01 IZX: `ORA (zp,X)` (R184). -/
  | oraIzx (zp : Byte)
  /-- 05 ZP: `ORA zp` (R184). -/
  | oraZp (zp : Byte)
  /-- 06 ZP: `ASL zp` (R220). -/
  | aslZp (zp : Byte)
  /-- 08 IMP: `PHP` (R271). -/
  | php
  /-- 09 IMM: `ORA #value` (R184). -/
  | oraImm (value : Byte)
  /-- 0A ACC: `ASL A` (R220). -/
  | aslAcc
  /-- 0D ABS: `ORA addr` (R184). -/
  | oraAbs (addr : Addr)
  /-- 0E ABS: `ASL addr` (R220). -/
  | aslAbs (addr : Addr)
  /-- 10 REL: `BPL disp` (R246). -/
  | bpl (disp : Byte)
  /-- 11 IZY: `ORA (zp),Y` (R184). -/
  | oraIzy (zp : Byte)
  /-- 15 ZPX: `ORA zp,X` (R184). -/
  | oraZpx (zp : Byte)
  /-- 16 ZPX: `ASL zp,X` (R220). -/
  | aslZpx (zp : Byte)
  /-- 18 IMP: `CLC` (R280). -/
  | clc
  /-- 19 ABY: `ORA base,Y` (R184). -/
  | oraAby (base : Addr)
  /-- 1D ABX: `ORA base,X` (R184). -/
  | oraAbx (base : Addr)
  /-- 1E ABX: `ASL base,X` (R220). -/
  | aslAbx (base : Addr)
  /-- 20 ABS: `JSR addr` (R250). -/
  | jsr (addr : Addr)
  /-- 21 IZX: `AND (zp,X)` (R183). -/
  | andIzx (zp : Byte)
  /-- 24 ZP: `BIT zp` (R189). -/
  | bitZp (zp : Byte)
  /-- 25 ZP: `AND zp` (R183). -/
  | andZp (zp : Byte)
  /-- 26 ZP: `ROL zp` (R222). -/
  | rolZp (zp : Byte)
  /-- 28 IMP: `PLP` (R273). -/
  | plp
  /-- 29 IMM: `AND #value` (R183). -/
  | andImm (value : Byte)
  /-- 2A ACC: `ROL A` (R222). -/
  | rolAcc
  /-- 2C ABS: `BIT addr` (R189). -/
  | bitAbs (addr : Addr)
  /-- 2D ABS: `AND addr` (R183). -/
  | andAbs (addr : Addr)
  /-- 2E ABS: `ROL addr` (R222). -/
  | rolAbs (addr : Addr)
  /-- 30 REL: `BMI disp` (R244). -/
  | bmi (disp : Byte)
  /-- 31 IZY: `AND (zp),Y` (R183). -/
  | andIzy (zp : Byte)
  /-- 35 ZPX: `AND zp,X` (R183). -/
  | andZpx (zp : Byte)
  /-- 36 ZPX: `ROL zp,X` (R222). -/
  | rolZpx (zp : Byte)
  /-- 38 IMP: `SEC` (R284). -/
  | sec
  /-- 39 ABY: `AND base,Y` (R183). -/
  | andAby (base : Addr)
  /-- 3D ABX: `AND base,X` (R183). -/
  | andAbx (base : Addr)
  /-- 3E ABX: `ROL base,X` (R222). -/
  | rolAbx (base : Addr)
  /-- 40 IMP: `RTI` (R252). -/
  | rti
  /-- 41 IZX: `EOR (zp,X)` (R185). -/
  | eorIzx (zp : Byte)
  /-- 45 ZP: `EOR zp` (R185). -/
  | eorZp (zp : Byte)
  /-- 46 ZP: `LSR zp` (R221). -/
  | lsrZp (zp : Byte)
  /-- 48 IMP: `PHA` (R270). -/
  | pha
  /-- 49 IMM: `EOR #value` (R185). -/
  | eorImm (value : Byte)
  /-- 4A ACC: `LSR A` (R221). -/
  | lsrAcc
  /-- 4C ABS: `JMP addr` (R249). -/
  | jmpAbs (addr : Addr)
  /-- 4D ABS: `EOR addr` (R185). -/
  | eorAbs (addr : Addr)
  /-- 4E ABS: `LSR addr` (R221). -/
  | lsrAbs (addr : Addr)
  /-- 50 REL: `BVC disp` (R247). -/
  | bvc (disp : Byte)
  /-- 51 IZY: `EOR (zp),Y` (R185). -/
  | eorIzy (zp : Byte)
  /-- 55 ZPX: `EOR zp,X` (R185). -/
  | eorZpx (zp : Byte)
  /-- 56 ZPX: `LSR zp,X` (R221). -/
  | lsrZpx (zp : Byte)
  /-- 58 IMP: `CLI` (R282). -/
  | cli
  /-- 59 ABY: `EOR base,Y` (R185). -/
  | eorAby (base : Addr)
  /-- 5D ABX: `EOR base,X` (R185). -/
  | eorAbx (base : Addr)
  /-- 5E ABX: `LSR base,X` (R221). -/
  | lsrAbx (base : Addr)
  /-- 60 IMP: `RTS` (R251). -/
  | rts
  /-- 61 IZX: `ADC (zp,X)` (R181). -/
  | adcIzx (zp : Byte)
  /-- 65 ZP: `ADC zp` (R181). -/
  | adcZp (zp : Byte)
  /-- 66 ZP: `ROR zp` (R223). -/
  | rorZp (zp : Byte)
  /-- 68 IMP: `PLA` (R272). -/
  | pla
  /-- 69 IMM: `ADC #value` (R181). -/
  | adcImm (value : Byte)
  /-- 6A ACC: `ROR A` (R223). -/
  | rorAcc
  /-- 6C IND: `JMP (ptr)` (R249). -/
  | jmpInd (ptr : Addr)
  /-- 6D ABS: `ADC addr` (R181). -/
  | adcAbs (addr : Addr)
  /-- 6E ABS: `ROR addr` (R223). -/
  | rorAbs (addr : Addr)
  /-- 70 REL: `BVS disp` (R248). -/
  | bvs (disp : Byte)
  /-- 71 IZY: `ADC (zp),Y` (R181). -/
  | adcIzy (zp : Byte)
  /-- 75 ZPX: `ADC zp,X` (R181). -/
  | adcZpx (zp : Byte)
  /-- 76 ZPX: `ROR zp,X` (R223). -/
  | rorZpx (zp : Byte)
  /-- 78 IMP: `SEI` (R286). -/
  | sei
  /-- 79 ABY: `ADC base,Y` (R181). -/
  | adcAby (base : Addr)
  /-- 7D ABX: `ADC base,X` (R181). -/
  | adcAbx (base : Addr)
  /-- 7E ABX: `ROR base,X` (R223). -/
  | rorAbx (base : Addr)
  /-- 81 IZX: `STA (zp,X)` (R163). -/
  | staIzx (zp : Byte)
  /-- 84 ZP: `STY zp` (R165). -/
  | styZp (zp : Byte)
  /-- 85 ZP: `STA zp` (R163). -/
  | staZp (zp : Byte)
  /-- 86 ZP: `STX zp` (R164). -/
  | stxZp (zp : Byte)
  /-- 88 IMP: `DEY` (R195). -/
  | dey
  /-- 8A IMP: `TXA` (R277). -/
  | txa
  /-- 8C ABS: `STY addr` (R165). -/
  | styAbs (addr : Addr)
  /-- 8D ABS: `STA addr` (R163). -/
  | staAbs (addr : Addr)
  /-- 8E ABS: `STX addr` (R164). -/
  | stxAbs (addr : Addr)
  /-- 90 REL: `BCC disp` (R241). -/
  | bcc (disp : Byte)
  /-- 91 IZY: `STA (zp),Y` (R163). -/
  | staIzy (zp : Byte)
  /-- 94 ZPX: `STY zp,X` (R165). -/
  | styZpx (zp : Byte)
  /-- 95 ZPX: `STA zp,X` (R163). -/
  | staZpx (zp : Byte)
  /-- 96 ZPY: `STX zp,Y` (R164). -/
  | stxZpy (zp : Byte)
  /-- 98 IMP: `TYA` (R279). -/
  | tya
  /-- 99 ABY: `STA base,Y` (R163). -/
  | staAby (base : Addr)
  /-- 9A IMP: `TXS` (R278). -/
  | txs
  /-- 9D ABX: `STA base,X` (R163). -/
  | staAbx (base : Addr)
  /-- A0 IMM: `LDY #value` (R162). -/
  | ldyImm (value : Byte)
  /-- A1 IZX: `LDA (zp,X)` (R160). -/
  | ldaIzx (zp : Byte)
  /-- A2 IMM: `LDX #value` (R161). -/
  | ldxImm (value : Byte)
  /-- A4 ZP: `LDY zp` (R162). -/
  | ldyZp (zp : Byte)
  /-- A5 ZP: `LDA zp` (R160). -/
  | ldaZp (zp : Byte)
  /-- A6 ZP: `LDX zp` (R161). -/
  | ldxZp (zp : Byte)
  /-- A8 IMP: `TAY` (R275). -/
  | tay
  /-- A9 IMM: `LDA #value` (R160). -/
  | ldaImm (value : Byte)
  /-- AA IMP: `TAX` (R274). -/
  | tax
  /-- AC ABS: `LDY addr` (R162). -/
  | ldyAbs (addr : Addr)
  /-- AD ABS: `LDA addr` (R160). -/
  | ldaAbs (addr : Addr)
  /-- AE ABS: `LDX addr` (R161). -/
  | ldxAbs (addr : Addr)
  /-- B0 REL: `BCS disp` (R242). -/
  | bcs (disp : Byte)
  /-- B1 IZY: `LDA (zp),Y` (R160). -/
  | ldaIzy (zp : Byte)
  /-- B4 ZPX: `LDY zp,X` (R162). -/
  | ldyZpx (zp : Byte)
  /-- B5 ZPX: `LDA zp,X` (R160). -/
  | ldaZpx (zp : Byte)
  /-- B6 ZPY: `LDX zp,Y` (R161). -/
  | ldxZpy (zp : Byte)
  /-- B8 IMP: `CLV` (R283). -/
  | clv
  /-- B9 ABY: `LDA base,Y` (R160). -/
  | ldaAby (base : Addr)
  /-- BA IMP: `TSX` (R276). -/
  | tsx
  /-- BC ABX: `LDY base,X` (R162). -/
  | ldyAbx (base : Addr)
  /-- BD ABX: `LDA base,X` (R160). -/
  | ldaAbx (base : Addr)
  /-- BE ABY: `LDX base,Y` (R161). -/
  | ldxAby (base : Addr)
  /-- C0 IMM: `CPY #value` (R188). -/
  | cpyImm (value : Byte)
  /-- C1 IZX: `CMP (zp,X)` (R186). -/
  | cmpIzx (zp : Byte)
  /-- C4 ZP: `CPY zp` (R188). -/
  | cpyZp (zp : Byte)
  /-- C5 ZP: `CMP zp` (R186). -/
  | cmpZp (zp : Byte)
  /-- C6 ZP: `DEC zp` (R191). -/
  | decZp (zp : Byte)
  /-- C8 IMP: `INY` (R193). -/
  | iny
  /-- C9 IMM: `CMP #value` (R186). -/
  | cmpImm (value : Byte)
  /-- CA IMP: `DEX` (R194). -/
  | dex
  /-- CC ABS: `CPY addr` (R188). -/
  | cpyAbs (addr : Addr)
  /-- CD ABS: `CMP addr` (R186). -/
  | cmpAbs (addr : Addr)
  /-- CE ABS: `DEC addr` (R191). -/
  | decAbs (addr : Addr)
  /-- D0 REL: `BNE disp` (R245). -/
  | bne (disp : Byte)
  /-- D1 IZY: `CMP (zp),Y` (R186). -/
  | cmpIzy (zp : Byte)
  /-- D5 ZPX: `CMP zp,X` (R186). -/
  | cmpZpx (zp : Byte)
  /-- D6 ZPX: `DEC zp,X` (R191). -/
  | decZpx (zp : Byte)
  /-- D8 IMP: `CLD` (R281). -/
  | cld
  /-- D9 ABY: `CMP base,Y` (R186). -/
  | cmpAby (base : Addr)
  /-- DD ABX: `CMP base,X` (R186). -/
  | cmpAbx (base : Addr)
  /-- DE ABX: `DEC base,X` (R191). -/
  | decAbx (base : Addr)
  /-- E0 IMM: `CPX #value` (R187). -/
  | cpxImm (value : Byte)
  /-- E1 IZX: `SBC (zp,X)` (R182). -/
  | sbcIzx (zp : Byte)
  /-- E4 ZP: `CPX zp` (R187). -/
  | cpxZp (zp : Byte)
  /-- E5 ZP: `SBC zp` (R182). -/
  | sbcZp (zp : Byte)
  /-- E6 ZP: `INC zp` (R190). -/
  | incZp (zp : Byte)
  /-- E8 IMP: `INX` (R192). -/
  | inx
  /-- E9 IMM: `SBC #value` (R182). -/
  | sbcImm (value : Byte)
  /-- EA IMP: `NOP` (R287). -/
  | nop
  /-- EC ABS: `CPX addr` (R187). -/
  | cpxAbs (addr : Addr)
  /-- ED ABS: `SBC addr` (R182). -/
  | sbcAbs (addr : Addr)
  /-- EE ABS: `INC addr` (R190). -/
  | incAbs (addr : Addr)
  /-- F0 REL: `BEQ disp` (R243). -/
  | beq (disp : Byte)
  /-- F1 IZY: `SBC (zp),Y` (R182). -/
  | sbcIzy (zp : Byte)
  /-- F5 ZPX: `SBC zp,X` (R182). -/
  | sbcZpx (zp : Byte)
  /-- F6 ZPX: `INC zp,X` (R190). -/
  | incZpx (zp : Byte)
  /-- F8 IMP: `SED` (R285). -/
  | sed
  /-- F9 ABY: `SBC base,Y` (R182). -/
  | sbcAby (base : Addr)
  /-- FD ABX: `SBC base,X` (R182). -/
  | sbcAbx (base : Addr)
  /-- FE ABX: `INC base,X` (R190). -/
  | incAbx (base : Addr)
  deriving DecidableEq, Repr

end Sys2Proof
end

