-- ==== Sys2Proof/WellFormed.lean ====
section
/-! DEFINITION. Which terms of Instr are instructions of the CORE. R75: every operand byte value is legal for every mode, and
the fields of Instr have exactly the widths of R71, so the one check left is the parameter of RTI (R252, 92 D1). -/

namespace Sys2Proof

/-- Well-formed under a reading of `RTI_IMPLEMENTED` (R9): without RTI, opcode 0x40 is no instruction. -/
def wellFormedFor (rti : Bool) (i : Instr) : Bool := rti || i != .rti

/-- Well-formed on this hardware: `RTI_IMPLEMENTED` at the value the spec decides. -/
def wellFormed (i : Instr) : Bool := wellFormedFor Config.rtiImplemented i

end Sys2Proof
end

