-- ==== Sys2Proof/Decode.lean ====
section
/-! DEFINITION. The decoder and the encoder (30_encoding.md): the opcode map of R73 row by row, the modes and lengths of R71,
the operand assembly of R72, the unknown opcodes of R74, and the word the host's opcode table is read with. -/

namespace Sys2Proof

/-! ### Byte order (R10, R54) -/

/-- `lo8(w)` (R10). -/
def lo8 (w : Addr) : Byte := w.extractLsb' 0 8

/-- `hi8(w)` (R10). -/
def hi8 (w : Addr) : Byte := w.extractLsb' 8 8

/-- `(h << 8) | l` (R10). -/
def word16 (h l : Byte) : Addr := (h.setWidth 16 <<< 8) ||| l.setWidth 16

/-! ### Modes and mnemonics -/

/-- The 13 addressing modes (R71). -/
inductive AddrMode where
  | imp | acc | imm | zp | zpx | zpy | abs | abx | aby | ind | izx | izy | rel
  deriving DecidableEq, Repr

/-- The length in bytes of an instruction of a mode (R70, R71). -/
def AddrMode.length : AddrMode → Nat
  | .imp => 1 | .acc => 1 | .imm => 2 | .zp => 2 | .zpx => 2 | .zpy => 2 | .abs => 3
  | .abx => 3 | .aby => 3 | .ind => 3 | .izx => 2 | .izy => 2 | .rel => 2

/-- The 56 mnemonics (R3). -/
inductive Mnemonic where
  | lda | ldx | ldy | sta | stx | sty | tax | tay | tsx | txa | txs | tya | inx | iny
  | dex | dey | inc | dec | adc | sbc | and | ora | eor | cmp | cpx | cpy | bit | asl
  | lsr | rol | ror | beq | bne | bmi | bpl | bvs | bvc | bcs | bcc | jmp | jsr | rts
  | rti | pha | php | pla | plp | clc | cld | cli | clv | sec | sed | sei | nop | brk
  deriving DecidableEq, Repr

/-- The mnemonic of an instruction (R73). -/
def Instr.mnemonic : Instr → Mnemonic
  | .ldaIzx _ | .ldaZp _ | .ldaImm _ | .ldaAbs _ | .ldaIzy _ | .ldaZpx _ | .ldaAby _ | .ldaAbx _ => .lda
  | .ldxImm _ | .ldxZp _ | .ldxAbs _ | .ldxZpy _ | .ldxAby _ => .ldx
  | .ldyImm _ | .ldyZp _ | .ldyAbs _ | .ldyZpx _ | .ldyAbx _ => .ldy
  | .staIzx _ | .staZp _ | .staAbs _ | .staIzy _ | .staZpx _ | .staAby _ | .staAbx _ => .sta
  | .stxZp _ | .stxAbs _ | .stxZpy _ => .stx
  | .styZp _ | .styAbs _ | .styZpx _ => .sty
  | .tax => .tax
  | .tay => .tay
  | .tsx => .tsx
  | .txa => .txa
  | .txs => .txs
  | .tya => .tya
  | .inx => .inx
  | .iny => .iny
  | .dex => .dex
  | .dey => .dey
  | .incZp _ | .incAbs _ | .incZpx _ | .incAbx _ => .inc
  | .decZp _ | .decAbs _ | .decZpx _ | .decAbx _ => .dec
  | .adcIzx _ | .adcZp _ | .adcImm _ | .adcAbs _ | .adcIzy _ | .adcZpx _ | .adcAby _ | .adcAbx _ => .adc
  | .sbcIzx _ | .sbcZp _ | .sbcImm _ | .sbcAbs _ | .sbcIzy _ | .sbcZpx _ | .sbcAby _ | .sbcAbx _ => .sbc
  | .andIzx _ | .andZp _ | .andImm _ | .andAbs _ | .andIzy _ | .andZpx _ | .andAby _ | .andAbx _ => .and
  | .oraIzx _ | .oraZp _ | .oraImm _ | .oraAbs _ | .oraIzy _ | .oraZpx _ | .oraAby _ | .oraAbx _ => .ora
  | .eorIzx _ | .eorZp _ | .eorImm _ | .eorAbs _ | .eorIzy _ | .eorZpx _ | .eorAby _ | .eorAbx _ => .eor
  | .cmpIzx _ | .cmpZp _ | .cmpImm _ | .cmpAbs _ | .cmpIzy _ | .cmpZpx _ | .cmpAby _ | .cmpAbx _ => .cmp
  | .cpxImm _ | .cpxZp _ | .cpxAbs _ => .cpx
  | .cpyImm _ | .cpyZp _ | .cpyAbs _ => .cpy
  | .bitZp _ | .bitAbs _ => .bit
  | .aslZp _ | .aslAcc | .aslAbs _ | .aslZpx _ | .aslAbx _ => .asl
  | .lsrZp _ | .lsrAcc | .lsrAbs _ | .lsrZpx _ | .lsrAbx _ => .lsr
  | .rolZp _ | .rolAcc | .rolAbs _ | .rolZpx _ | .rolAbx _ => .rol
  | .rorZp _ | .rorAcc | .rorAbs _ | .rorZpx _ | .rorAbx _ => .ror
  | .beq _ => .beq
  | .bne _ => .bne
  | .bmi _ => .bmi
  | .bpl _ => .bpl
  | .bvs _ => .bvs
  | .bvc _ => .bvc
  | .bcs _ => .bcs
  | .bcc _ => .bcc
  | .jmpAbs _ | .jmpInd _ => .jmp
  | .jsr _ => .jsr
  | .rts => .rts
  | .rti => .rti
  | .pha => .pha
  | .php => .php
  | .pla => .pla
  | .plp => .plp
  | .clc => .clc
  | .cld => .cld
  | .cli => .cli
  | .clv => .clv
  | .sec => .sec
  | .sed => .sed
  | .sei => .sei
  | .nop => .nop
  | .brk => .brk

/-- The addressing mode of an instruction (R70, R73). -/
def Instr.mode : Instr → AddrMode
  | .brk | .php | .clc | .plp | .sec | .rti | .pha | .cli | .rts | .pla | .sei | .dey | .txa | .tya | .txs
    | .tay | .tax | .clv | .tsx | .iny | .dex | .cld | .inx | .nop | .sed => .imp
  | .aslAcc | .rolAcc | .lsrAcc | .rorAcc => .acc
  | .oraImm _ | .andImm _ | .eorImm _ | .adcImm _ | .ldyImm _ | .ldxImm _ | .ldaImm _ | .cpyImm _ | .cmpImm _
    | .cpxImm _ | .sbcImm _ => .imm
  | .oraZp _ | .aslZp _ | .bitZp _ | .andZp _ | .rolZp _ | .eorZp _ | .lsrZp _ | .adcZp _ | .rorZp _ | .styZp _
    | .staZp _ | .stxZp _ | .ldyZp _ | .ldaZp _ | .ldxZp _ | .cpyZp _ | .cmpZp _ | .decZp _ | .cpxZp _
    | .sbcZp _ | .incZp _ => .zp
  | .oraZpx _ | .aslZpx _ | .andZpx _ | .rolZpx _ | .eorZpx _ | .lsrZpx _ | .adcZpx _ | .rorZpx _ | .styZpx _
    | .staZpx _ | .ldyZpx _ | .ldaZpx _ | .cmpZpx _ | .decZpx _ | .sbcZpx _ | .incZpx _ => .zpx
  | .stxZpy _ | .ldxZpy _ => .zpy
  | .oraAbs _ | .aslAbs _ | .jsr _ | .bitAbs _ | .andAbs _ | .rolAbs _ | .jmpAbs _ | .eorAbs _ | .lsrAbs _
    | .adcAbs _ | .rorAbs _ | .styAbs _ | .staAbs _ | .stxAbs _ | .ldyAbs _ | .ldaAbs _ | .ldxAbs _ | .cpyAbs _
    | .cmpAbs _ | .decAbs _ | .cpxAbs _ | .sbcAbs _ | .incAbs _ => .abs
  | .oraAbx _ | .aslAbx _ | .andAbx _ | .rolAbx _ | .eorAbx _ | .lsrAbx _ | .adcAbx _ | .rorAbx _ | .staAbx _
    | .ldyAbx _ | .ldaAbx _ | .cmpAbx _ | .decAbx _ | .sbcAbx _ | .incAbx _ => .abx
  | .oraAby _ | .andAby _ | .eorAby _ | .adcAby _ | .staAby _ | .ldaAby _ | .ldxAby _ | .cmpAby _ | .sbcAby _ => .aby
  | .jmpInd _ => .ind
  | .oraIzx _ | .andIzx _ | .eorIzx _ | .adcIzx _ | .staIzx _ | .ldaIzx _ | .cmpIzx _ | .sbcIzx _ => .izx
  | .oraIzy _ | .andIzy _ | .eorIzy _ | .adcIzy _ | .staIzy _ | .ldaIzy _ | .cmpIzy _ | .sbcIzy _ => .izy
  | .bpl _ | .bmi _ | .bvc _ | .bvs _ | .bcc _ | .bcs _ | .bne _ | .beq _ => .rel

/-- The length in bytes of an instruction: its mode's (R70). -/
def Instr.length (i : Instr) : Nat := i.mode.length

/-! ### The encoder -/

/-- The opcode byte of an instruction (R73). -/
def opcode : Instr → Byte
  | .brk => 0x00
  | .oraIzx _ => 0x01
  | .oraZp _ => 0x05
  | .aslZp _ => 0x06
  | .php => 0x08
  | .oraImm _ => 0x09
  | .aslAcc => 0x0A
  | .oraAbs _ => 0x0D
  | .aslAbs _ => 0x0E
  | .bpl _ => 0x10
  | .oraIzy _ => 0x11
  | .oraZpx _ => 0x15
  | .aslZpx _ => 0x16
  | .clc => 0x18
  | .oraAby _ => 0x19
  | .oraAbx _ => 0x1D
  | .aslAbx _ => 0x1E
  | .jsr _ => 0x20
  | .andIzx _ => 0x21
  | .bitZp _ => 0x24
  | .andZp _ => 0x25
  | .rolZp _ => 0x26
  | .plp => 0x28
  | .andImm _ => 0x29
  | .rolAcc => 0x2A
  | .bitAbs _ => 0x2C
  | .andAbs _ => 0x2D
  | .rolAbs _ => 0x2E
  | .bmi _ => 0x30
  | .andIzy _ => 0x31
  | .andZpx _ => 0x35
  | .rolZpx _ => 0x36
  | .sec => 0x38
  | .andAby _ => 0x39
  | .andAbx _ => 0x3D
  | .rolAbx _ => 0x3E
  | .rti => 0x40
  | .eorIzx _ => 0x41
  | .eorZp _ => 0x45
  | .lsrZp _ => 0x46
  | .pha => 0x48
  | .eorImm _ => 0x49
  | .lsrAcc => 0x4A
  | .jmpAbs _ => 0x4C
  | .eorAbs _ => 0x4D
  | .lsrAbs _ => 0x4E
  | .bvc _ => 0x50
  | .eorIzy _ => 0x51
  | .eorZpx _ => 0x55
  | .lsrZpx _ => 0x56
  | .cli => 0x58
  | .eorAby _ => 0x59
  | .eorAbx _ => 0x5D
  | .lsrAbx _ => 0x5E
  | .rts => 0x60
  | .adcIzx _ => 0x61
  | .adcZp _ => 0x65
  | .rorZp _ => 0x66
  | .pla => 0x68
  | .adcImm _ => 0x69
  | .rorAcc => 0x6A
  | .jmpInd _ => 0x6C
  | .adcAbs _ => 0x6D
  | .rorAbs _ => 0x6E
  | .bvs _ => 0x70
  | .adcIzy _ => 0x71
  | .adcZpx _ => 0x75
  | .rorZpx _ => 0x76
  | .sei => 0x78
  | .adcAby _ => 0x79
  | .adcAbx _ => 0x7D
  | .rorAbx _ => 0x7E
  | .staIzx _ => 0x81
  | .styZp _ => 0x84
  | .staZp _ => 0x85
  | .stxZp _ => 0x86
  | .dey => 0x88
  | .txa => 0x8A
  | .styAbs _ => 0x8C
  | .staAbs _ => 0x8D
  | .stxAbs _ => 0x8E
  | .bcc _ => 0x90
  | .staIzy _ => 0x91
  | .styZpx _ => 0x94
  | .staZpx _ => 0x95
  | .stxZpy _ => 0x96
  | .tya => 0x98
  | .staAby _ => 0x99
  | .txs => 0x9A
  | .staAbx _ => 0x9D
  | .ldyImm _ => 0xA0
  | .ldaIzx _ => 0xA1
  | .ldxImm _ => 0xA2
  | .ldyZp _ => 0xA4
  | .ldaZp _ => 0xA5
  | .ldxZp _ => 0xA6
  | .tay => 0xA8
  | .ldaImm _ => 0xA9
  | .tax => 0xAA
  | .ldyAbs _ => 0xAC
  | .ldaAbs _ => 0xAD
  | .ldxAbs _ => 0xAE
  | .bcs _ => 0xB0
  | .ldaIzy _ => 0xB1
  | .ldyZpx _ => 0xB4
  | .ldaZpx _ => 0xB5
  | .ldxZpy _ => 0xB6
  | .clv => 0xB8
  | .ldaAby _ => 0xB9
  | .tsx => 0xBA
  | .ldyAbx _ => 0xBC
  | .ldaAbx _ => 0xBD
  | .ldxAby _ => 0xBE
  | .cpyImm _ => 0xC0
  | .cmpIzx _ => 0xC1
  | .cpyZp _ => 0xC4
  | .cmpZp _ => 0xC5
  | .decZp _ => 0xC6
  | .iny => 0xC8
  | .cmpImm _ => 0xC9
  | .dex => 0xCA
  | .cpyAbs _ => 0xCC
  | .cmpAbs _ => 0xCD
  | .decAbs _ => 0xCE
  | .bne _ => 0xD0
  | .cmpIzy _ => 0xD1
  | .cmpZpx _ => 0xD5
  | .decZpx _ => 0xD6
  | .cld => 0xD8
  | .cmpAby _ => 0xD9
  | .cmpAbx _ => 0xDD
  | .decAbx _ => 0xDE
  | .cpxImm _ => 0xE0
  | .sbcIzx _ => 0xE1
  | .cpxZp _ => 0xE4
  | .sbcZp _ => 0xE5
  | .incZp _ => 0xE6
  | .inx => 0xE8
  | .sbcImm _ => 0xE9
  | .nop => 0xEA
  | .cpxAbs _ => 0xEC
  | .sbcAbs _ => 0xED
  | .incAbs _ => 0xEE
  | .beq _ => 0xF0
  | .sbcIzy _ => 0xF1
  | .sbcZpx _ => 0xF5
  | .incZpx _ => 0xF6
  | .sed => 0xF8
  | .sbcAby _ => 0xF9
  | .sbcAbx _ => 0xFD
  | .incAbx _ => 0xFE

/-- The operand bytes of an instruction (R71, R72): a word has its low byte first. -/
def operandBytes : Instr → List Byte
  | .brk | .php | .aslAcc | .clc | .plp | .rolAcc | .sec | .rti | .pha | .lsrAcc | .cli | .rts | .pla | .rorAcc
    | .sei | .dey | .txa | .tya | .txs | .tay | .tax | .clv | .tsx | .iny | .dex | .cld | .inx | .nop | .sed => []
  | .oraImm value | .andImm value | .eorImm value | .adcImm value | .ldyImm value | .ldxImm value
    | .ldaImm value | .cpyImm value | .cmpImm value | .cpxImm value | .sbcImm value => [value]
  | .oraIzx zp | .oraZp zp | .aslZp zp | .oraIzy zp | .oraZpx zp | .aslZpx zp | .andIzx zp | .bitZp zp
    | .andZp zp | .rolZp zp | .andIzy zp | .andZpx zp | .rolZpx zp | .eorIzx zp | .eorZp zp | .lsrZp zp
    | .eorIzy zp | .eorZpx zp | .lsrZpx zp | .adcIzx zp | .adcZp zp | .rorZp zp | .adcIzy zp | .adcZpx zp
    | .rorZpx zp | .staIzx zp | .styZp zp | .staZp zp | .stxZp zp | .staIzy zp | .styZpx zp | .staZpx zp
    | .stxZpy zp | .ldaIzx zp | .ldyZp zp | .ldaZp zp | .ldxZp zp | .ldaIzy zp | .ldyZpx zp | .ldaZpx zp
    | .ldxZpy zp | .cmpIzx zp | .cpyZp zp | .cmpZp zp | .decZp zp | .cmpIzy zp | .cmpZpx zp | .decZpx zp
    | .sbcIzx zp | .cpxZp zp | .sbcZp zp | .incZp zp | .sbcIzy zp | .sbcZpx zp | .incZpx zp => [zp]
  | .bpl disp | .bmi disp | .bvc disp | .bvs disp | .bcc disp | .bcs disp | .bne disp | .beq disp => [disp]
  | .oraAbs addr | .aslAbs addr | .jsr addr | .bitAbs addr | .andAbs addr | .rolAbs addr | .jmpAbs addr
    | .eorAbs addr | .lsrAbs addr | .adcAbs addr | .rorAbs addr | .styAbs addr | .staAbs addr | .stxAbs addr
    | .ldyAbs addr | .ldaAbs addr | .ldxAbs addr | .cpyAbs addr | .cmpAbs addr | .decAbs addr | .cpxAbs addr
    | .sbcAbs addr | .incAbs addr => [lo8 addr, hi8 addr]
  | .oraAby base | .oraAbx base | .aslAbx base | .andAby base | .andAbx base | .rolAbx base | .eorAby base
    | .eorAbx base | .lsrAbx base | .adcAby base | .adcAbx base | .rorAbx base | .staAby base | .staAbx base
    | .ldaAby base | .ldyAbx base | .ldaAbx base | .ldxAby base | .cmpAby base | .cmpAbx base | .decAbx base
    | .sbcAby base | .sbcAbx base | .incAbx base => [lo8 base, hi8 base]
  | .jmpInd ptr => [lo8 ptr, hi8 ptr]

/-- The bytes of an instruction, the opcode first (R70, R71). -/
def encode (i : Instr) : List Byte := opcode i :: operandBytes i

/-! ### The decoder: the map of R73, one function per row (high nibble of the opcode), the low nibble as argument -/

/-- Row 0x of the opcode map (R73). -/
def decodeRow0 (col : Nat) (lo hi : Byte) : Option Instr :=
  match col with
  | 0x0 => some .brk
  | 0x1 => some (.oraIzx lo)
  | 0x5 => some (.oraZp lo)
  | 0x6 => some (.aslZp lo)
  | 0x8 => some .php
  | 0x9 => some (.oraImm lo)
  | 0xA => some .aslAcc
  | 0xD => some (.oraAbs (word16 hi lo))
  | 0xE => some (.aslAbs (word16 hi lo))
  | _ => none

/-- Row 1x of the opcode map (R73). -/
def decodeRow1 (col : Nat) (lo hi : Byte) : Option Instr :=
  match col with
  | 0x0 => some (.bpl lo)
  | 0x1 => some (.oraIzy lo)
  | 0x5 => some (.oraZpx lo)
  | 0x6 => some (.aslZpx lo)
  | 0x8 => some .clc
  | 0x9 => some (.oraAby (word16 hi lo))
  | 0xD => some (.oraAbx (word16 hi lo))
  | 0xE => some (.aslAbx (word16 hi lo))
  | _ => none

/-- Row 2x of the opcode map (R73). -/
def decodeRow2 (col : Nat) (lo hi : Byte) : Option Instr :=
  match col with
  | 0x0 => some (.jsr (word16 hi lo))
  | 0x1 => some (.andIzx lo)
  | 0x4 => some (.bitZp lo)
  | 0x5 => some (.andZp lo)
  | 0x6 => some (.rolZp lo)
  | 0x8 => some .plp
  | 0x9 => some (.andImm lo)
  | 0xA => some .rolAcc
  | 0xC => some (.bitAbs (word16 hi lo))
  | 0xD => some (.andAbs (word16 hi lo))
  | 0xE => some (.rolAbs (word16 hi lo))
  | _ => none

/-- Row 3x of the opcode map (R73). -/
def decodeRow3 (col : Nat) (lo hi : Byte) : Option Instr :=
  match col with
  | 0x0 => some (.bmi lo)
  | 0x1 => some (.andIzy lo)
  | 0x5 => some (.andZpx lo)
  | 0x6 => some (.rolZpx lo)
  | 0x8 => some .sec
  | 0x9 => some (.andAby (word16 hi lo))
  | 0xD => some (.andAbx (word16 hi lo))
  | 0xE => some (.rolAbx (word16 hi lo))
  | _ => none

/-- Row 4x of the opcode map (R73). 0x40 is RTI when RTI is implemented (R252). -/
def decodeRow4 (rti : Bool) (col : Nat) (lo hi : Byte) : Option Instr :=
  match col with
  | 0x0 => if rti then some .rti else none
  | 0x1 => some (.eorIzx lo)
  | 0x5 => some (.eorZp lo)
  | 0x6 => some (.lsrZp lo)
  | 0x8 => some .pha
  | 0x9 => some (.eorImm lo)
  | 0xA => some .lsrAcc
  | 0xC => some (.jmpAbs (word16 hi lo))
  | 0xD => some (.eorAbs (word16 hi lo))
  | 0xE => some (.lsrAbs (word16 hi lo))
  | _ => none

/-- Row 5x of the opcode map (R73). -/
def decodeRow5 (col : Nat) (lo hi : Byte) : Option Instr :=
  match col with
  | 0x0 => some (.bvc lo)
  | 0x1 => some (.eorIzy lo)
  | 0x5 => some (.eorZpx lo)
  | 0x6 => some (.lsrZpx lo)
  | 0x8 => some .cli
  | 0x9 => some (.eorAby (word16 hi lo))
  | 0xD => some (.eorAbx (word16 hi lo))
  | 0xE => some (.lsrAbx (word16 hi lo))
  | _ => none

/-- Row 6x of the opcode map (R73). -/
def decodeRow6 (col : Nat) (lo hi : Byte) : Option Instr :=
  match col with
  | 0x0 => some .rts
  | 0x1 => some (.adcIzx lo)
  | 0x5 => some (.adcZp lo)
  | 0x6 => some (.rorZp lo)
  | 0x8 => some .pla
  | 0x9 => some (.adcImm lo)
  | 0xA => some .rorAcc
  | 0xC => some (.jmpInd (word16 hi lo))
  | 0xD => some (.adcAbs (word16 hi lo))
  | 0xE => some (.rorAbs (word16 hi lo))
  | _ => none

/-- Row 7x of the opcode map (R73). -/
def decodeRow7 (col : Nat) (lo hi : Byte) : Option Instr :=
  match col with
  | 0x0 => some (.bvs lo)
  | 0x1 => some (.adcIzy lo)
  | 0x5 => some (.adcZpx lo)
  | 0x6 => some (.rorZpx lo)
  | 0x8 => some .sei
  | 0x9 => some (.adcAby (word16 hi lo))
  | 0xD => some (.adcAbx (word16 hi lo))
  | 0xE => some (.rorAbx (word16 hi lo))
  | _ => none

/-- Row 8x of the opcode map (R73). -/
def decodeRow8 (col : Nat) (lo hi : Byte) : Option Instr :=
  match col with
  | 0x1 => some (.staIzx lo)
  | 0x4 => some (.styZp lo)
  | 0x5 => some (.staZp lo)
  | 0x6 => some (.stxZp lo)
  | 0x8 => some .dey
  | 0xA => some .txa
  | 0xC => some (.styAbs (word16 hi lo))
  | 0xD => some (.staAbs (word16 hi lo))
  | 0xE => some (.stxAbs (word16 hi lo))
  | _ => none

/-- Row 9x of the opcode map (R73). -/
def decodeRow9 (col : Nat) (lo hi : Byte) : Option Instr :=
  match col with
  | 0x0 => some (.bcc lo)
  | 0x1 => some (.staIzy lo)
  | 0x4 => some (.styZpx lo)
  | 0x5 => some (.staZpx lo)
  | 0x6 => some (.stxZpy lo)
  | 0x8 => some .tya
  | 0x9 => some (.staAby (word16 hi lo))
  | 0xA => some .txs
  | 0xD => some (.staAbx (word16 hi lo))
  | _ => none

/-- Row Ax of the opcode map (R73). -/
def decodeRowA (col : Nat) (lo hi : Byte) : Option Instr :=
  match col with
  | 0x0 => some (.ldyImm lo)
  | 0x1 => some (.ldaIzx lo)
  | 0x2 => some (.ldxImm lo)
  | 0x4 => some (.ldyZp lo)
  | 0x5 => some (.ldaZp lo)
  | 0x6 => some (.ldxZp lo)
  | 0x8 => some .tay
  | 0x9 => some (.ldaImm lo)
  | 0xA => some .tax
  | 0xC => some (.ldyAbs (word16 hi lo))
  | 0xD => some (.ldaAbs (word16 hi lo))
  | 0xE => some (.ldxAbs (word16 hi lo))
  | _ => none

/-- Row Bx of the opcode map (R73). -/
def decodeRowB (col : Nat) (lo hi : Byte) : Option Instr :=
  match col with
  | 0x0 => some (.bcs lo)
  | 0x1 => some (.ldaIzy lo)
  | 0x4 => some (.ldyZpx lo)
  | 0x5 => some (.ldaZpx lo)
  | 0x6 => some (.ldxZpy lo)
  | 0x8 => some .clv
  | 0x9 => some (.ldaAby (word16 hi lo))
  | 0xA => some .tsx
  | 0xC => some (.ldyAbx (word16 hi lo))
  | 0xD => some (.ldaAbx (word16 hi lo))
  | 0xE => some (.ldxAby (word16 hi lo))
  | _ => none

/-- Row Cx of the opcode map (R73). -/
def decodeRowC (col : Nat) (lo hi : Byte) : Option Instr :=
  match col with
  | 0x0 => some (.cpyImm lo)
  | 0x1 => some (.cmpIzx lo)
  | 0x4 => some (.cpyZp lo)
  | 0x5 => some (.cmpZp lo)
  | 0x6 => some (.decZp lo)
  | 0x8 => some .iny
  | 0x9 => some (.cmpImm lo)
  | 0xA => some .dex
  | 0xC => some (.cpyAbs (word16 hi lo))
  | 0xD => some (.cmpAbs (word16 hi lo))
  | 0xE => some (.decAbs (word16 hi lo))
  | _ => none

/-- Row Dx of the opcode map (R73). -/
def decodeRowD (col : Nat) (lo hi : Byte) : Option Instr :=
  match col with
  | 0x0 => some (.bne lo)
  | 0x1 => some (.cmpIzy lo)
  | 0x5 => some (.cmpZpx lo)
  | 0x6 => some (.decZpx lo)
  | 0x8 => some .cld
  | 0x9 => some (.cmpAby (word16 hi lo))
  | 0xD => some (.cmpAbx (word16 hi lo))
  | 0xE => some (.decAbx (word16 hi lo))
  | _ => none

/-- Row Ex of the opcode map (R73). -/
def decodeRowE (col : Nat) (lo hi : Byte) : Option Instr :=
  match col with
  | 0x0 => some (.cpxImm lo)
  | 0x1 => some (.sbcIzx lo)
  | 0x4 => some (.cpxZp lo)
  | 0x5 => some (.sbcZp lo)
  | 0x6 => some (.incZp lo)
  | 0x8 => some .inx
  | 0x9 => some (.sbcImm lo)
  | 0xA => some .nop
  | 0xC => some (.cpxAbs (word16 hi lo))
  | 0xD => some (.sbcAbs (word16 hi lo))
  | 0xE => some (.incAbs (word16 hi lo))
  | _ => none

/-- Row Fx of the opcode map (R73). -/
def decodeRowF (col : Nat) (lo hi : Byte) : Option Instr :=
  match col with
  | 0x0 => some (.beq lo)
  | 0x1 => some (.sbcIzy lo)
  | 0x5 => some (.sbcZpx lo)
  | 0x6 => some (.incZpx lo)
  | 0x8 => some .sed
  | 0x9 => some (.sbcAby (word16 hi lo))
  | 0xD => some (.sbcAbx (word16 hi lo))
  | 0xE => some (.incAbx (word16 hi lo))
  | _ => none

/-- The decoder (R135, R73, R76) under a reading of `RTI_IMPLEMENTED`: the opcode byte and the two bytes after it, of which
the mode uses none, one or both (R70). `none` is an unknown opcode (R74). -/
def decodeOpFor (rti : Bool) (op lo hi : Byte) : Option Instr :=
  let col := op.toNat % 16
  match op.toNat / 16 with
  | 0x0 => decodeRow0 col lo hi
  | 0x1 => decodeRow1 col lo hi
  | 0x2 => decodeRow2 col lo hi
  | 0x3 => decodeRow3 col lo hi
  | 0x4 => decodeRow4 rti col lo hi
  | 0x5 => decodeRow5 col lo hi
  | 0x6 => decodeRow6 col lo hi
  | 0x7 => decodeRow7 col lo hi
  | 0x8 => decodeRow8 col lo hi
  | 0x9 => decodeRow9 col lo hi
  | 0xA => decodeRowA col lo hi
  | 0xB => decodeRowB col lo hi
  | 0xC => decodeRowC col lo hi
  | 0xD => decodeRowD col lo hi
  | 0xE => decodeRowE col lo hi
  | 0xF => decodeRowF col lo hi
  | _ => none

/-- The decoder of this hardware. -/
def decodeOp (op lo hi : Byte) : Option Instr := decodeOpFor Config.rtiImplemented op lo hi

/-- What decoding a sequence of bytes gives: an instruction and the bytes after it, or a rejection by name. -/
inductive DecodeResult where
  /-- The first bytes are an instruction. -/
  | ok (i : Instr) (rest : List Byte)
  /-- The first byte is an unknown opcode (R74). -/
  | unknownOpcode (op : Byte)
  /-- The bytes end before the instruction does. -/
  | truncated
  deriving DecidableEq, Repr

/-- Decoding any bytes, total (R76). -/
def decode : List Byte → DecodeResult
  | [] => .truncated
  | op :: rest =>
    match decodeOp op (rest.getD 0 0) (rest.getD 1 0) with
    | none => .unknownOpcode op
    | some i => if rest.length + 1 < i.length then .truncated else .ok i ((op :: rest).drop i.length)

/-- The instruction decoded, if there is one. -/
def DecodeResult.instr? : DecodeResult → Option Instr
  | .ok i _ => some i
  | .unknownOpcode _ => none
  | .truncated => none

/-- Byte `k` of an instruction whose `nbits` low bits are `w`, numbered as the opcode table numbers them: byte 0 is the
opcode; every bit from `nbits` on is 0. -/
def tableByte (nbits w k : Nat) : Byte := BitVec.ofNat 8 ((w % 2 ^ nbits) / 256 ^ k)

/-- The bytes of that instruction up to the longest length (R71), first byte at the lowest address. -/
def tableBytes (nbits w : Nat) : List Byte := [tableByte nbits w 0, tableByte nbits w 1, tableByte nbits w 2]

/-- The instruction the decoder reads from a word of the opcode table. -/
def decodeTableWord (nbits w : Nat) : Option Instr := (decode (tableBytes nbits w)).instr?

end Sys2Proof
end

