-- ==== Sys2Proof/Machine/State.lean ====
section
/-! DEFINITION. The machine's state as plain data: everything R20 lists, the memory behind the bus (R50), the diagnostic
output (R38) and the bus accesses of the last instruction (R53); what stops a step; creation (R330, R37) and reset. -/

namespace Sys2Proof.Machine

/-- The seven stored status flags (R26), 1 bit each. B is a stored flag in this hardware (R31). -/
structure Flags where
  /-- N, negative. -/
  n : Bool
  /-- V, overflow. -/
  v : Bool
  /-- B, break. -/
  b : Bool
  /-- D, decimal: stored, no arithmetic effect (R29). -/
  d : Bool
  /-- I, interrupt disable: stored, no effect (R30). -/
  i : Bool
  /-- Z, zero. -/
  z : Bool
  /-- C, carry or no borrow. -/
  c : Bool
  deriving DecidableEq, Repr

/-- The two external states (R34). -/
inductive RunState where
  | running
  | halted
  deriving DecidableEq, Repr

/-- Why HALTED was entered (R35, 92 D18): `none` while RUNNING. -/
inductive HaltReason where
  | none
  | brk
  | illegal (op : Byte)
  deriving DecidableEq, Repr

/-- One bus access (R51, R53): a read of one byte at an address, or a write of one byte. -/
inductive BusAccess where
  | read (addr : Addr)
  | write (addr : Addr) (value : Byte)
  deriving DecidableEq, Repr

/-- The memory of R50, sparse: cells at strictly rising addresses, none holding 0x00, which is what an unlisted address
reads as (log entry 3). Every map `u16 → u8` has exactly one such list, so any MEM_INIT can be written down. -/
abbrev Memory := List Host.Cell

/-- The CORE's state (R20) with the memory it reaches (R50) and its outputs. -/
structure State where
  /-- A, the accumulator (R21). -/
  a : Byte
  /-- X, index register (R22). -/
  x : Byte
  /-- Y, index register (R23). -/
  y : Byte
  /-- SP, low byte of the stack address (R25). -/
  sp : Byte
  /-- PC, address of the next opcode to fetch (R24). -/
  pc : Addr
  /-- The seven status flags (R26). -/
  flags : Flags
  /-- `cycles_available`, the signed cycle balance (R32). -/
  cyclesAvailable : Int
  /-- `page_crossed`, the transient indicator (R33). -/
  pageCrossed : Bool
  /-- `run_state` (R34). -/
  runState : RunState
  /-- `halt_reason` (R35). -/
  haltReason : HaltReason
  /-- The memory behind the bus (R50, R51). -/
  mem : Memory
  /-- The bus accesses of the most recent instruction, oldest first (R53): the model's own observation field, what a bus
  interposer saw (R19). Log entry 7. -/
  bus : List BusAccess
  /-- The diagnostic output (R38): the `unknown_opcode(op)` events emitted, oldest first (R140). Log entry 12. -/
  events : List Byte
  deriving DecidableEq, Repr

/-- The faults of the CORE: none. R300: "The CORE raises no exceptions, no traps and no faults". BRK and an unknown
opcode halt the CORE in a next state. Safe: no step is cut short. -/
inductive Fault where
  deriving DecidableEq, Repr

/-- Why a step or a `run` has no meaning in the model. -/
inductive Refusal where
  /-- An arm of `exec` whose instruction has no meaning yet raises it. Safe: the model stops. No arm of this model
  does. -/
  | notModelled (mnemonic : String)
  /-- R32, 92 D11, 93 U7: "A `run` call or charge that would leave this range is refused by the model". Raised by the
  charge of an instruction and by the deposit of `run`. Safe: the model stops. -/
  | cycleRange
  deriving DecidableEq, Repr

/-- All flags 0 (R26, R37: "all flags false"). -/
def Flags.clear : Flags := ⟨false, false, false, false, false, false, false⟩

/-- Creation of an instance (R330) at the values of R37: PC, SP, the draws for A, X, Y and the memory image are the
host's, everything else is fixed. -/
def State.create (pc : Addr) (sp a x y : Byte) (mem : Memory) : State where
  a := a
  x := x
  y := y
  sp := sp
  pc := pc
  flags := Flags.clear
  cyclesAvailable := 0
  pageCrossed := false
  runState := .running
  haltReason := .none
  mem := mem
  bus := []
  events := []

/-- The machine right after creation, with the creation values that Config names (R37, R330; log entries 1, 2, 3). -/
def State.reset : State :=
  State.create Config.initPC Config.initSP Config.initA Config.initX Config.initY []

end Sys2Proof.Machine
end

