-- ==== Sys2Proof/Machine/Flags.lean ====
section
/-! DEFINITION. Every flag computation of the spec: packing and unpacking the flag byte (R27, R28), set_NZ (R116),
Compare (R117), the adder (R180), BIT (R189) and the shifts with their carry (R220 to R223). -/

namespace Sys2Proof.Machine

/-- `set_NZ(v)` (R116): N is bit 7 of v, Z says v is 0. No other flag is written. -/
def setNZ (v : Byte) (f : Flags) : Flags :=
  { f with n := v.getLsbD 7, z := v == 0 }

/-- A flag as bit `k` of the packed byte (R27). -/
def flagBit (flag : Bool) (k : Nat) : Byte :=
  (if flag then (1 : Byte) else 0) <<< k

/-- `pack()` (R27): N V 1 B D I Z C from bit 7 down. Bit 4 is the stored B, bit 5 is always 1. -/
def pack (f : Flags) : Byte :=
  flagBit f.n 7 ||| flagBit f.v 6 ||| flagBit true 5 ||| flagBit f.b 4 |||
    flagBit f.d 3 ||| flagBit f.i 2 ||| flagBit f.z 1 ||| flagBit f.c 0

/-- `unpack(b)` (R28): all seven flags from the byte, bit 5 discarded. -/
def unpack (b : Byte) : Flags where
  n := b.getLsbD 7
  v := b.getLsbD 6
  b := b.getLsbD 4
  d := b.getLsbD 3
  i := b.getLsbD 2
  z := b.getLsbD 1
  c := b.getLsbD 0

/-- `Compare(r, m)` (R117): C, Z, N from `d = r - m` as an integer; V and the others unchanged. -/
def compareFlags (r m : Byte) (f : Flags) : Flags :=
  let d : Int := (r.toNat : Int) - (m.toNat : Int)
  { f with c := decide (0 ≤ d), z := decide (d = 0), n := (BitVec.ofInt 8 d).getLsbD 7 }

/-- The exact sum of ADC8 (R180), 0 to 511. -/
def adcSum (a m : Byte) (c : Bool) : Nat := a.toNat + m.toNat + c.toNat

/-- The result of ADC8 (R180): the sum mod 256. -/
def adcResult (a m : Byte) (c : Bool) : Byte := BitVec.ofNat 8 (adcSum a m c)

/-- The carry of ADC8 (R180): the sum is over 0xFF. -/
def adcCarry (a m : Byte) (c : Bool) : Bool := decide (0xFF < adcSum a m c)

/-- The overflow of ADC8 (R180): `((a XOR sum) AND (m XOR sum) AND 0x80) != 0`. -/
def adcOverflow (a m : Byte) (c : Bool) : Bool :=
  ((a.toNat ^^^ adcSum a m c) &&& (m.toNat ^^^ adcSum a m c) &&& 0x80) != 0

/-- The flags ADC8 leaves (R180): C, V, and N, Z of the result. D has no effect (R29). -/
def adcFlags (a m : Byte) (f : Flags) : Flags :=
  setNZ (adcResult a m f.c) { f with c := adcCarry a m f.c, v := adcOverflow a m f.c }

/-- The flags of BIT (R189): N and V are bits 7 and 6 of the operand, Z tests A AND M. -/
def bitFlags (a m : Byte) (f : Flags) : Flags :=
  { f with n := m.getLsbD 7, v := m.getLsbD 6, z := (a &&& m) == 0 }

/-- ASL (R220): a 0 enters at bit 0, bit 7 leaves into C. -/
def asl (v : Byte) (f : Flags) : Byte × Flags :=
  let r := v <<< 1
  (r, setNZ r { f with c := v.getLsbD 7 })

/-- LSR (R221): a 0 enters at bit 7, bit 0 leaves into C. -/
def lsr (v : Byte) (f : Flags) : Byte × Flags :=
  let r := v >>> 1
  (r, setNZ r { f with c := v.getLsbD 0 })

/-- ROL (R222): the old C enters at bit 0, bit 7 leaves into C. -/
def rol (v : Byte) (f : Flags) : Byte × Flags :=
  let r := (v <<< 1) ||| flagBit f.c 0
  (r, setNZ r { f with c := v.getLsbD 7 })

/-- ROR (R223): the old C enters at bit 7, bit 0 leaves into C. -/
def ror (v : Byte) (f : Flags) : Byte × Flags :=
  let r := (v >>> 1) ||| flagBit f.c 7
  (r, setNZ r { f with c := v.getLsbD 0 })

/-- INC of a byte (R190): plus one mod 256, N and Z only. -/
def incByte (v : Byte) (f : Flags) : Byte × Flags := (v + 1, setNZ (v + 1) f)

/-- DEC of a byte (R191): minus one mod 256, N and Z only. -/
def decByte (v : Byte) (f : Flags) : Byte × Flags := (v - 1, setNZ (v - 1) f)

end Sys2Proof.Machine
end

