-- ==== Sys2Proof/Machine/Ops.lean ====
section
/-! DEFINITION. The named operations over memory, registers and the stack; the head of every instruction (R132 to R136);
the trap entry of BRK (R304), the halt on an unknown opcode (R140) and the trap return of RTI (R305). -/

namespace Sys2Proof.Machine

/-! ### Memory -/

/-- The byte at an address of a memory (R51). An unlisted address reads as 0x00 (log entry 3). -/
def Memory.readAt : Memory → Nat → Byte
  | [], _ => 0#8
  | (b, w) :: m, a => if a = b then w else if a < b then 0#8 else Memory.readAt m a

/-- The memory with one byte replaced (R51), in canonical form: writing 0x00 unlists the address. -/
def Memory.writeAt : Memory → Nat → Byte → Memory
  | [], a, v => if v = 0#8 then [] else [(a, v)]
  | (b, w) :: m, a, v =>
    if a = b then (if v = 0#8 then m else (a, v) :: m)
    else if a < b then (if v = 0#8 then (b, w) :: m else (a, v) :: (b, w) :: m)
    else (b, w) :: Memory.writeAt m a v

/-- `Bus.read(addr)` on a memory (R51). -/
def Memory.read (m : Memory) (a : Addr) : Byte := m.readAt a.toNat

/-- `Bus.write(addr, v)` on a memory (R51). -/
def Memory.write (m : Memory) (a : Addr) (v : Byte) : Memory := m.writeAt a.toNat v

/-- Addresses rise strictly from `lo` on, lie below 2^16 (R50), and no listed byte is 0x00. -/
def Memory.wfFrom : Nat → Memory → Bool
  | _, [] => true
  | lo, (a, v) :: m => decide (lo ≤ a) && decide (a < 65536) && v != 0#8 && Memory.wfFrom (a + 1) m

/-- The canonical form of a memory: equal memories are equal lists. -/
def Memory.wf (m : Memory) : Bool := Memory.wfFrom 0 m

/-! ### Registers: each write goes through one operation -/

/-- A <- v (R21). -/
def setA (v : Byte) (s : State) : State := { s with a := v }

/-- X <- v (R22). -/
def setX (v : Byte) (s : State) : State := { s with x := v }

/-- Y <- v (R23). -/
def setY (v : Byte) (s : State) : State := { s with y := v }

/-- SP <- v (R25). -/
def setSP (v : Byte) (s : State) : State := { s with sp := v }

/-- PC <- v (R24). -/
def setPC (v : Addr) (s : State) : State := { s with pc := v }

/-- The flags <- f (R26). -/
def setFlags (f : Flags) (s : State) : State := { s with flags := f }

/-- `cycles_available` <- n (R32). -/
def setCycles (n : Int) (s : State) : State := { s with cyclesAvailable := n }

/-- `set_NZ(v)` on the state's flags (R116). -/
def flagNZ (v : Byte) (s : State) : State := setFlags (setNZ v s.flags) s

/-! ### The bus -/

/-- `MemRead(addr, 1)` (R12): the byte. -/
def busRead (a : Addr) (s : State) : Byte := s.mem.read a

/-- Reads, made in the order given, join the access log (R53). A read of the flat memory changes nothing else (R51). -/
def logReads (as : List Addr) (s : State) : State :=
  { s with bus := s.bus ++ as.map BusAccess.read }

/-- `MemWrite(addr, 1, v)` (R12), with its place in the access log (R53). -/
def busWrite (a : Addr) (v : Byte) (s : State) : State :=
  { s with mem := s.mem.write a v, bus := s.bus ++ [BusAccess.write a v] }

/-- `Word(addr)` (R54): little-endian, the address of the high byte wraps mod 2^16. -/
def wordAt (a : Addr) (s : State) : Addr := word16 (busRead (a + 1) s) (busRead a s)

/-- A zero-page address (R72): the byte zero-extended. -/
def zeroPage (zp : Byte) : Addr := zp.setWidth 16

/-- `ZpWord(zp)` (R55): the address of the high byte wraps mod 256. -/
def zpWord (zp : Byte) (s : State) : Addr :=
  word16 (busRead (zeroPage (zp + 1)) s) (busRead (zeroPage zp) s)

/-! ### The stack -/

/-- The stack address (R25, R119): 0x0100 + SP. -/
def stackAddr (sp : Byte) : Addr := 0x0100 + sp.setWidth 16

/-- `Push(v)` (R119): write at SP, then decrement SP mod 256. -/
def push (v : Byte) (s : State) : State :=
  setSP (s.sp - 1) (busWrite (stackAddr s.sp) v s)

/-- `Pull()` (R119): increment SP mod 256, then read. The byte and the state after. -/
def pull (s : State) : Byte × State :=
  let sp := s.sp + 1
  (busRead (stackAddr sp) s, logReads [stackAddr sp] (setSP sp s))

/-- Pull a 16-bit word, low byte first (R251, R252). -/
def pullWord (s : State) : Addr × State :=
  let lo := pull s
  let hi := pull lo.2
  (word16 hi.1 lo.1, hi.2)

/-- Push a 16-bit word, high byte first (R250, R253). -/
def pushWord (w : Addr) (s : State) : State := push (lo8 w) (push (hi8 w) s)

/-! ### The head of an instruction -/

/-- The addresses of `n` instruction bytes from `a` on (R70: consecutive mod 2^16). -/
def fetchAddrs (a : Addr) : Nat → List Addr
  | 0 => []
  | n + 1 => a :: fetchAddrs (a + 1) n

/-- The reserved interrupt check hook (R133, R302): it does nothing. -/
def interruptHook (s : State) : State := s

/-- The head of an instruction of `n` bytes: `page_crossed` cleared (R132), the hook (R133), its bytes read in order
(R134, R53) and PC advanced past them (R134, R136). It starts the access log of the instruction. -/
def fetch (n : Nat) (s : State) : State :=
  let s := interruptHook { s with pageCrossed := false, bus := [] }
  setPC (s.pc + BitVec.ofNat 16 n) (logReads (fetchAddrs s.pc n) s)

/-! ### Halting, trap entry and trap return -/

/-- `halt(reason)` (R13): HALTED is entered, the reason recorded (R34, R35). -/
def enterHalted (r : HaltReason) (s : State) : State :=
  { s with runState := .halted, haltReason := r }

/-- Trap entry (R304, R253), the CORE's one way of saving state: PC high, PC low, then the packed flags with the old B go
to the stack, B is set, and the CORE halts. No vector is read, I and PC stay. -/
def trapEntry (s : State) : State :=
  let t := push (pack s.flags) (pushWord s.pc s)
  enterHalted .brk (setFlags { t.flags with b := true } t)

/-- The halt on an unknown opcode (R140, R301): after its fetch the event is emitted and the CORE halts; nothing is
pushed, charged or read. -/
def haltUnknown (op : Byte) (s : State) : State :=
  let t := fetch 1 s
  enterHalted (.illegal op) { t with events := t.events ++ [op] }

/-- Trap return (R305, R252): the flags, then PC low, then PC high come from the stack; no plus one. -/
def trapReturn (s : State) : State :=
  let f := pull s
  let w := pullWord (setFlags (unpack f.1) f.2)
  setPC w.1 w.2

end Sys2Proof.Machine
end

