-- ==== Sys2Proof/Machine/Operands.lean ====
section
/-! DEFINITION. The address generator (40_addressing.md): every operand form, its value or effective address, the page-cross
test and the bus accesses the form makes. -/

namespace Sys2Proof.Machine

/-- A memory operand: one of the eight modes that give an effective address (R100). -/
inductive MemOperand where
  | zp (zp : Byte)
  | zpx (zp : Byte)
  | zpy (zp : Byte)
  | abs (addr : Addr)
  | abx (base : Addr)
  | aby (base : Addr)
  | izx (zp : Byte)
  | izy (zp : Byte)
  deriving DecidableEq, Repr

/-- The operand of a reading instruction (R118): the immediate value (R103) or a memory operand. -/
inductive Operand where
  | imm (value : Byte)
  | mem (m : MemOperand)
  deriving DecidableEq, Repr

/-- The page-cross test (R114): the high bytes differ. -/
def crossed (a b : Addr) : Bool := hi8 a != hi8 b

/-- The length of an instruction with this memory operand (R71). -/
def memLength : MemOperand → Nat
  | .zp _ => 2 | .zpx _ => 2 | .zpy _ => 2 | .abs _ => 3 | .abx _ => 3 | .aby _ => 3 | .izx _ => 2 | .izy _ => 2

/-- The length of an instruction with this operand (R71). -/
def operandLength : Operand → Nat
  | .imm _ => 2
  | .mem m => memLength m

/-- The effective address of a memory operand (R104 to R111). -/
def effAddr (m : MemOperand) (s : State) : Addr :=
  match m with
  | .zp z => zeroPage z
  | .zpx z => zeroPage (z + s.x)
  | .zpy z => zeroPage (z + s.y)
  | .abs a => a
  | .abx base => base + s.x.setWidth 16
  | .aby base => base + s.y.setWidth 16
  | .izx z => zpWord (z + s.x) s
  | .izy z => zpWord z s + s.y.setWidth 16

/-- Whether the address computation crosses a page (R108, R109, R111); no other mode sets `page_crossed` (R115). -/
def pageCross (m : MemOperand) (s : State) : Bool :=
  match m with
  | .zp _ => false
  | .zpx _ => false
  | .zpy _ => false
  | .abs _ => false
  | .abx base => crossed base (base + s.x.setWidth 16)
  | .aby base => crossed base (base + s.y.setWidth 16)
  | .izx _ => false
  | .izy z => crossed (zpWord z s) (zpWord z s + s.y.setWidth 16)

/-- The pointer bytes a memory operand reads, in order (R53, R55, R110, R111). -/
def pointerReads (m : MemOperand) (s : State) : List Addr :=
  match m with
  | .zp _ => []
  | .zpx _ => []
  | .zpy _ => []
  | .abs _ => []
  | .abx _ => []
  | .aby _ => []
  | .izx z => [zeroPage (z + s.x), zeroPage (z + s.x + 1)]
  | .izy z => [zeroPage z, zeroPage (z + 1)]

/-- The address generator at work (R100): the pointer reads are made and `page_crossed` is set on a crossing. -/
def resolve (m : MemOperand) (s : State) : State :=
  { logReads (pointerReads m s) s with pageCrossed := s.pageCrossed || pageCross m s }

/-- The operand byte M of a reading instruction (R118). -/
def operandValue (o : Operand) (s : State) : Byte :=
  match o with
  | .imm v => v
  | .mem m => busRead (effAddr m s) s

/-- The accesses a reading instruction makes for its operand (R53): none for IMM, whose byte was fetched. -/
def operandRead (o : Operand) (s : State) : State :=
  match o with
  | .imm _ => s
  | .mem m => logReads [effAddr m s] (resolve m s)

/-- The target of a taken branch (R112): the displacement, sign-extended, added to the address of the next
instruction. -/
def branchTarget (next : Addr) (disp : Byte) : Addr := next + disp.signExtend 16

/-- The address of the target's high byte in JMP (ind) (R113), under a reading of `JMP_IND_PAGE_WRAP`. -/
def jmpIndHighAddr (wrap : Bool) (ptr : Addr) : Addr :=
  if wrap then word16 (hi8 ptr) (lo8 ptr + 1) else ptr + 1

/-- The target of JMP (ind) (R113): the word at the pointer, low byte read first. -/
def jmpIndTarget (wrap : Bool) (ptr : Addr) (s : State) : Addr :=
  word16 (busRead (jmpIndHighAddr wrap ptr) s) (busRead ptr s)

end Sys2Proof.Machine
end

