-- ==== Sys2Proof/Machine/Cycles.lean ====
section
/-! DEFINITION. The cycle accountant: the base cycle table (R144), the page-penalty set (R145) and the charge (R138) with its
range check (R32). -/

namespace Sys2Proof.Machine

/-- `BASE_CYCLES` (R144), sixteen opcodes a row, the high nibble of the opcode counting the rows; 0 at an unknown opcode,
which is never charged (R140). -/
def baseCycleRows : List (List Nat) :=
  [ [7, 6, 0, 0, 0, 3, 5, 0, 3, 2, 2, 0, 0, 4, 6, 0],  -- 0x
    [2, 5, 0, 0, 0, 4, 6, 0, 2, 4, 0, 0, 0, 4, 7, 0],  -- 1x
    [6, 6, 0, 0, 3, 3, 5, 0, 4, 2, 2, 0, 4, 4, 6, 0],  -- 2x
    [2, 5, 0, 0, 0, 4, 6, 0, 2, 4, 0, 0, 0, 4, 7, 0],  -- 3x
    [6, 6, 0, 0, 0, 3, 5, 0, 3, 2, 2, 0, 3, 4, 6, 0],  -- 4x
    [2, 5, 0, 0, 0, 4, 6, 0, 2, 4, 0, 0, 0, 4, 7, 0],  -- 5x
    [6, 6, 0, 0, 0, 3, 5, 0, 4, 2, 2, 0, 5, 4, 6, 0],  -- 6x
    [2, 5, 0, 0, 0, 4, 6, 0, 2, 4, 0, 0, 0, 4, 7, 0],  -- 7x
    [0, 6, 0, 0, 3, 3, 3, 0, 2, 0, 2, 0, 4, 4, 4, 0],  -- 8x
    [2, 6, 0, 0, 4, 4, 4, 0, 2, 5, 2, 0, 0, 5, 0, 0],  -- 9x
    [2, 6, 2, 0, 3, 3, 3, 0, 2, 2, 2, 0, 4, 4, 4, 0],  -- Ax
    [2, 5, 0, 0, 4, 4, 4, 0, 2, 4, 2, 0, 4, 4, 4, 0],  -- Bx
    [2, 6, 0, 0, 3, 3, 5, 0, 2, 2, 2, 0, 4, 4, 6, 0],  -- Cx
    [2, 5, 0, 0, 0, 4, 6, 0, 2, 4, 0, 0, 0, 4, 7, 0],  -- Dx
    [2, 6, 0, 0, 3, 3, 5, 0, 2, 2, 2, 0, 4, 4, 6, 0],  -- Ex
    [2, 5, 0, 0, 0, 4, 6, 0, 2, 4, 0, 0, 0, 4, 7, 0] ]  -- Fx

/-- `BASE_CYCLES[op]` (R144). -/
def baseCycles (op : Byte) : Nat := (baseCycleRows.getD (op.toNat / 16) []).getD (op.toNat % 16) 0

/-- The 23 opcodes that pay for a page crossing (R145): the indexed reads marked "+". -/
def penaltyOpcodes : List Byte :=
  [0x11, 0x19, 0x1D, 0x31, 0x39, 0x3D, 0x51, 0x59, 0x5D, 0x71, 0x79, 0x7D,
   0xB1, 0xB9, 0xBC, 0xBD, 0xBE, 0xD1, 0xD9, 0xDD, 0xF1, 0xF9, 0xFD]

/-- `PAGE_PENALTY[op]` (R145). -/
def pagePenalty (op : Byte) : Bool := penaltyOpcodes.contains op

/-- What an instruction is charged (R138): the base, one more for a penalised page crossing, and the branch's extra. -/
def chargeOf (op : Byte) (pageCrossed : Bool) (branchExtra : Nat) : Nat :=
  baseCycles op + (if pagePenalty op && pageCrossed then 1 else 0) + branchExtra

/-- A balance the CORE admits (R32, 92 D11). -/
def balanceOk (n : Int) : Bool := decide (Config.cycleMin ≤ n) && decide (n ≤ Config.cycleMax)

/-- `charge` (R13, R138): the balance falls by the charge; a charge that would leave the range is refused (R32). -/
def charge (op : Byte) (branchExtra : Nat) (s : State) : Host.Outcome State Fault Refusal :=
  let n := s.cyclesAvailable - chargeOf op s.pageCrossed branchExtra
  if balanceOk n then .next (setCycles n s) else .refused .cycleRange

end Sys2Proof.Machine
end

