-- ==== Sys2Proof/Machine/Shapes.lean ====
section
/-! DEFINITION. The shapes instructions have (R18, R118, R137): one operation per shape, from the fetch to the charge. A
meaning names its opcode, its effect and its operand form; the shape does the rest in the order of R146. -/

namespace Sys2Proof.Machine

/-- An instruction without a memory operand (R101): fetch one byte, act, charge. -/
def implied (op : Byte) (act : State → State) (s : State) : Host.Outcome State Fault Refusal :=
  charge op 0 (act (fetch 1 s))

/-- The *read* class (R18, R118): the operand M is read, then the effect `act M` takes place. -/
def readInstr (op : Byte) (act : Byte → State → State) (o : Operand) (s : State) : Host.Outcome State Fault Refusal :=
  let t := fetch (operandLength o) s
  charge op 0 (act (operandValue o t) (operandRead o t))

/-- The *write* class (R18, R118): the register `src` goes to the effective address, which is not read. -/
def storeInstr (op : Byte) (src : State → Byte) (m : MemOperand) (s : State) : Host.Outcome State Fault Refusal :=
  let t := fetch (memLength m) s
  charge op 0 (busWrite (effAddr m t) (src t) (resolve m t))

/-- The *RMW* class (R18, R118): read the byte, compute, write the same address. -/
def rmwInstr (op : Byte) (f : Byte → Flags → Byte × Flags) (m : MemOperand) (s : State) :
    Host.Outcome State Fault Refusal :=
  let t := fetch (memLength m) s
  let r := f (busRead (effAddr m t) t) t.flags
  charge op 0 (busWrite (effAddr m t) r.1 (setFlags r.2 (logReads [effAddr m t] (resolve m t))))

/-- The accumulator form of a shift or rotate (R102): the operand and the result are A. -/
def accInstr (op : Byte) (f : Byte → Flags → Byte × Flags) (s : State) : Host.Outcome State Fault Refusal :=
  let t := fetch 1 s
  let r := f t.a t.flags
  charge op 0 (setFlags r.2 (setA r.1 t))

/-- A conditional branch (R240): PC is past the displacement; a taken branch adds it and is charged 1 more, or 2 more when
the target lies on another page than the next instruction (92 D9). -/
def branch (op : Byte) (cond : Flags → Bool) (disp : Byte) (s : State) : Host.Outcome State Fault Refusal :=
  let t := fetch 2 s
  if cond t.flags then
    let target := branchTarget t.pc disp
    charge op (if crossed t.pc target then 2 else 1) (setPC target t)
  else charge op 0 t

end Sys2Proof.Machine
end

