-- ==== Sys2Proof/Machine/Arith.lean ====
section
/-! DEFINITION. Arithmetic, logic, compare, bit test, increment and decrement (43_arith_logic.md, R180 to R195). -/

namespace Sys2Proof.Machine

/-- A <- ADC8(A, M, C) (R181). -/
def adcA (m : Byte) (s : State) : State :=
  setFlags (adcFlags s.a m s.flags) (setA (adcResult s.a m s.flags.c) s)

/-- A <- ADC8(A, M XOR 0xFF, C) (R182): the complement is 8 bits wide (92 D14). -/
def sbcA (m : Byte) (s : State) : State := adcA (m ^^^ 0xFF) s

/-- A <- A AND M, then set_NZ(A) (R183). -/
def andA (m : Byte) (s : State) : State := flagNZ (s.a &&& m) (setA (s.a &&& m) s)

/-- A <- A OR M, then set_NZ(A) (R184). -/
def oraA (m : Byte) (s : State) : State := flagNZ (s.a ||| m) (setA (s.a ||| m) s)

/-- A <- A XOR M, then set_NZ(A) (R185). -/
def eorA (m : Byte) (s : State) : State := flagNZ (s.a ^^^ m) (setA (s.a ^^^ m) s)

/-- Compare(A, M) (R186). -/
def cmpA (m : Byte) (s : State) : State := setFlags (compareFlags s.a m s.flags) s

/-- Compare(X, M) (R187). -/
def cmpX (m : Byte) (s : State) : State := setFlags (compareFlags s.x m s.flags) s

/-- Compare(Y, M) (R188). -/
def cmpY (m : Byte) (s : State) : State := setFlags (compareFlags s.y m s.flags) s

/-- BIT (R189): flags only. -/
def bitA (m : Byte) (s : State) : State := setFlags (bitFlags s.a m s.flags) s

/-- ADC (zp,X), opcode 61: add with carry (R181). -/
def execAdcIzx (zp : Byte) (s : State) : Host.Outcome State Fault Refusal :=
  readInstr 0x61 adcA (.mem (.izx zp)) s

/-- ADC zp, opcode 65: add with carry (R181). -/
def execAdcZp (zp : Byte) (s : State) : Host.Outcome State Fault Refusal :=
  readInstr 0x65 adcA (.mem (.zp zp)) s

/-- ADC #value, opcode 69: add with carry (R181). -/
def execAdcImm (value : Byte) (s : State) : Host.Outcome State Fault Refusal :=
  readInstr 0x69 adcA (.imm value) s

/-- ADC addr, opcode 6D: add with carry (R181). -/
def execAdcAbs (addr : Addr) (s : State) : Host.Outcome State Fault Refusal :=
  readInstr 0x6D adcA (.mem (.abs addr)) s

/-- ADC (zp),Y, opcode 71: add with carry (R181). -/
def execAdcIzy (zp : Byte) (s : State) : Host.Outcome State Fault Refusal :=
  readInstr 0x71 adcA (.mem (.izy zp)) s

/-- ADC zp,X, opcode 75: add with carry (R181). -/
def execAdcZpx (zp : Byte) (s : State) : Host.Outcome State Fault Refusal :=
  readInstr 0x75 adcA (.mem (.zpx zp)) s

/-- ADC base,Y, opcode 79: add with carry (R181). -/
def execAdcAby (base : Addr) (s : State) : Host.Outcome State Fault Refusal :=
  readInstr 0x79 adcA (.mem (.aby base)) s

/-- ADC base,X, opcode 7D: add with carry (R181). -/
def execAdcAbx (base : Addr) (s : State) : Host.Outcome State Fault Refusal :=
  readInstr 0x7D adcA (.mem (.abx base)) s

/-- SBC (zp,X), opcode E1: subtract with carry (R182). -/
def execSbcIzx (zp : Byte) (s : State) : Host.Outcome State Fault Refusal :=
  readInstr 0xE1 sbcA (.mem (.izx zp)) s

/-- SBC zp, opcode E5: subtract with carry (R182). -/
def execSbcZp (zp : Byte) (s : State) : Host.Outcome State Fault Refusal :=
  readInstr 0xE5 sbcA (.mem (.zp zp)) s

/-- SBC #value, opcode E9: subtract with carry (R182). -/
def execSbcImm (value : Byte) (s : State) : Host.Outcome State Fault Refusal :=
  readInstr 0xE9 sbcA (.imm value) s

/-- SBC addr, opcode ED: subtract with carry (R182). -/
def execSbcAbs (addr : Addr) (s : State) : Host.Outcome State Fault Refusal :=
  readInstr 0xED sbcA (.mem (.abs addr)) s

/-- SBC (zp),Y, opcode F1: subtract with carry (R182). -/
def execSbcIzy (zp : Byte) (s : State) : Host.Outcome State Fault Refusal :=
  readInstr 0xF1 sbcA (.mem (.izy zp)) s

/-- SBC zp,X, opcode F5: subtract with carry (R182). -/
def execSbcZpx (zp : Byte) (s : State) : Host.Outcome State Fault Refusal :=
  readInstr 0xF5 sbcA (.mem (.zpx zp)) s

/-- SBC base,Y, opcode F9: subtract with carry (R182). -/
def execSbcAby (base : Addr) (s : State) : Host.Outcome State Fault Refusal :=
  readInstr 0xF9 sbcA (.mem (.aby base)) s

/-- SBC base,X, opcode FD: subtract with carry (R182). -/
def execSbcAbx (base : Addr) (s : State) : Host.Outcome State Fault Refusal :=
  readInstr 0xFD sbcA (.mem (.abx base)) s

/-- AND (zp,X), opcode 21: and into A (R183). -/
def execAndIzx (zp : Byte) (s : State) : Host.Outcome State Fault Refusal :=
  readInstr 0x21 andA (.mem (.izx zp)) s

/-- AND zp, opcode 25: and into A (R183). -/
def execAndZp (zp : Byte) (s : State) : Host.Outcome State Fault Refusal :=
  readInstr 0x25 andA (.mem (.zp zp)) s

/-- AND #value, opcode 29: and into A (R183). -/
def execAndImm (value : Byte) (s : State) : Host.Outcome State Fault Refusal :=
  readInstr 0x29 andA (.imm value) s

/-- AND addr, opcode 2D: and into A (R183). -/
def execAndAbs (addr : Addr) (s : State) : Host.Outcome State Fault Refusal :=
  readInstr 0x2D andA (.mem (.abs addr)) s

/-- AND (zp),Y, opcode 31: and into A (R183). -/
def execAndIzy (zp : Byte) (s : State) : Host.Outcome State Fault Refusal :=
  readInstr 0x31 andA (.mem (.izy zp)) s

/-- AND zp,X, opcode 35: and into A (R183). -/
def execAndZpx (zp : Byte) (s : State) : Host.Outcome State Fault Refusal :=
  readInstr 0x35 andA (.mem (.zpx zp)) s

/-- AND base,Y, opcode 39: and into A (R183). -/
def execAndAby (base : Addr) (s : State) : Host.Outcome State Fault Refusal :=
  readInstr 0x39 andA (.mem (.aby base)) s

/-- AND base,X, opcode 3D: and into A (R183). -/
def execAndAbx (base : Addr) (s : State) : Host.Outcome State Fault Refusal :=
  readInstr 0x3D andA (.mem (.abx base)) s

/-- ORA (zp,X), opcode 01: or into A (R184). -/
def execOraIzx (zp : Byte) (s : State) : Host.Outcome State Fault Refusal :=
  readInstr 0x01 oraA (.mem (.izx zp)) s

/-- ORA zp, opcode 05: or into A (R184). -/
def execOraZp (zp : Byte) (s : State) : Host.Outcome State Fault Refusal :=
  readInstr 0x05 oraA (.mem (.zp zp)) s

/-- ORA #value, opcode 09: or into A (R184). -/
def execOraImm (value : Byte) (s : State) : Host.Outcome State Fault Refusal :=
  readInstr 0x09 oraA (.imm value) s

/-- ORA addr, opcode 0D: or into A (R184). -/
def execOraAbs (addr : Addr) (s : State) : Host.Outcome State Fault Refusal :=
  readInstr 0x0D oraA (.mem (.abs addr)) s

/-- ORA (zp),Y, opcode 11: or into A (R184). -/
def execOraIzy (zp : Byte) (s : State) : Host.Outcome State Fault Refusal :=
  readInstr 0x11 oraA (.mem (.izy zp)) s

/-- ORA zp,X, opcode 15: or into A (R184). -/
def execOraZpx (zp : Byte) (s : State) : Host.Outcome State Fault Refusal :=
  readInstr 0x15 oraA (.mem (.zpx zp)) s

/-- ORA base,Y, opcode 19: or into A (R184). -/
def execOraAby (base : Addr) (s : State) : Host.Outcome State Fault Refusal :=
  readInstr 0x19 oraA (.mem (.aby base)) s

/-- ORA base,X, opcode 1D: or into A (R184). -/
def execOraAbx (base : Addr) (s : State) : Host.Outcome State Fault Refusal :=
  readInstr 0x1D oraA (.mem (.abx base)) s

/-- EOR (zp,X), opcode 41: exclusive or into A (R185). -/
def execEorIzx (zp : Byte) (s : State) : Host.Outcome State Fault Refusal :=
  readInstr 0x41 eorA (.mem (.izx zp)) s

/-- EOR zp, opcode 45: exclusive or into A (R185). -/
def execEorZp (zp : Byte) (s : State) : Host.Outcome State Fault Refusal :=
  readInstr 0x45 eorA (.mem (.zp zp)) s

/-- EOR #value, opcode 49: exclusive or into A (R185). -/
def execEorImm (value : Byte) (s : State) : Host.Outcome State Fault Refusal :=
  readInstr 0x49 eorA (.imm value) s

/-- EOR addr, opcode 4D: exclusive or into A (R185). -/
def execEorAbs (addr : Addr) (s : State) : Host.Outcome State Fault Refusal :=
  readInstr 0x4D eorA (.mem (.abs addr)) s

/-- EOR (zp),Y, opcode 51: exclusive or into A (R185). -/
def execEorIzy (zp : Byte) (s : State) : Host.Outcome State Fault Refusal :=
  readInstr 0x51 eorA (.mem (.izy zp)) s

/-- EOR zp,X, opcode 55: exclusive or into A (R185). -/
def execEorZpx (zp : Byte) (s : State) : Host.Outcome State Fault Refusal :=
  readInstr 0x55 eorA (.mem (.zpx zp)) s

/-- EOR base,Y, opcode 59: exclusive or into A (R185). -/
def execEorAby (base : Addr) (s : State) : Host.Outcome State Fault Refusal :=
  readInstr 0x59 eorA (.mem (.aby base)) s

/-- EOR base,X, opcode 5D: exclusive or into A (R185). -/
def execEorAbx (base : Addr) (s : State) : Host.Outcome State Fault Refusal :=
  readInstr 0x5D eorA (.mem (.abx base)) s

/-- CMP (zp,X), opcode C1: compare A (R186). -/
def execCmpIzx (zp : Byte) (s : State) : Host.Outcome State Fault Refusal :=
  readInstr 0xC1 cmpA (.mem (.izx zp)) s

/-- CMP zp, opcode C5: compare A (R186). -/
def execCmpZp (zp : Byte) (s : State) : Host.Outcome State Fault Refusal :=
  readInstr 0xC5 cmpA (.mem (.zp zp)) s

/-- CMP #value, opcode C9: compare A (R186). -/
def execCmpImm (value : Byte) (s : State) : Host.Outcome State Fault Refusal :=
  readInstr 0xC9 cmpA (.imm value) s

/-- CMP addr, opcode CD: compare A (R186). -/
def execCmpAbs (addr : Addr) (s : State) : Host.Outcome State Fault Refusal :=
  readInstr 0xCD cmpA (.mem (.abs addr)) s

/-- CMP (zp),Y, opcode D1: compare A (R186). -/
def execCmpIzy (zp : Byte) (s : State) : Host.Outcome State Fault Refusal :=
  readInstr 0xD1 cmpA (.mem (.izy zp)) s

/-- CMP zp,X, opcode D5: compare A (R186). -/
def execCmpZpx (zp : Byte) (s : State) : Host.Outcome State Fault Refusal :=
  readInstr 0xD5 cmpA (.mem (.zpx zp)) s

/-- CMP base,Y, opcode D9: compare A (R186). -/
def execCmpAby (base : Addr) (s : State) : Host.Outcome State Fault Refusal :=
  readInstr 0xD9 cmpA (.mem (.aby base)) s

/-- CMP base,X, opcode DD: compare A (R186). -/
def execCmpAbx (base : Addr) (s : State) : Host.Outcome State Fault Refusal :=
  readInstr 0xDD cmpA (.mem (.abx base)) s

/-- CPX #value, opcode E0: compare X (R187). -/
def execCpxImm (value : Byte) (s : State) : Host.Outcome State Fault Refusal :=
  readInstr 0xE0 cmpX (.imm value) s

/-- CPX zp, opcode E4: compare X (R187). -/
def execCpxZp (zp : Byte) (s : State) : Host.Outcome State Fault Refusal :=
  readInstr 0xE4 cmpX (.mem (.zp zp)) s

/-- CPX addr, opcode EC: compare X (R187). -/
def execCpxAbs (addr : Addr) (s : State) : Host.Outcome State Fault Refusal :=
  readInstr 0xEC cmpX (.mem (.abs addr)) s

/-- CPY #value, opcode C0: compare Y (R188). -/
def execCpyImm (value : Byte) (s : State) : Host.Outcome State Fault Refusal :=
  readInstr 0xC0 cmpY (.imm value) s

/-- CPY zp, opcode C4: compare Y (R188). -/
def execCpyZp (zp : Byte) (s : State) : Host.Outcome State Fault Refusal :=
  readInstr 0xC4 cmpY (.mem (.zp zp)) s

/-- CPY addr, opcode CC: compare Y (R188). -/
def execCpyAbs (addr : Addr) (s : State) : Host.Outcome State Fault Refusal :=
  readInstr 0xCC cmpY (.mem (.abs addr)) s

/-- BIT zp, opcode 24: test bits against A (R189). -/
def execBitZp (zp : Byte) (s : State) : Host.Outcome State Fault Refusal :=
  readInstr 0x24 bitA (.mem (.zp zp)) s

/-- BIT addr, opcode 2C: test bits against A (R189). -/
def execBitAbs (addr : Addr) (s : State) : Host.Outcome State Fault Refusal :=
  readInstr 0x2C bitA (.mem (.abs addr)) s

/-- INC zp, opcode E6: increment memory (R190). -/
def execIncZp (zp : Byte) (s : State) : Host.Outcome State Fault Refusal :=
  rmwInstr 0xE6 incByte (.zp zp) s

/-- INC addr, opcode EE: increment memory (R190). -/
def execIncAbs (addr : Addr) (s : State) : Host.Outcome State Fault Refusal :=
  rmwInstr 0xEE incByte (.abs addr) s

/-- INC zp,X, opcode F6: increment memory (R190). -/
def execIncZpx (zp : Byte) (s : State) : Host.Outcome State Fault Refusal :=
  rmwInstr 0xF6 incByte (.zpx zp) s

/-- INC base,X, opcode FE: increment memory (R190). -/
def execIncAbx (base : Addr) (s : State) : Host.Outcome State Fault Refusal :=
  rmwInstr 0xFE incByte (.abx base) s

/-- DEC zp, opcode C6: decrement memory (R191). -/
def execDecZp (zp : Byte) (s : State) : Host.Outcome State Fault Refusal :=
  rmwInstr 0xC6 decByte (.zp zp) s

/-- DEC addr, opcode CE: decrement memory (R191). -/
def execDecAbs (addr : Addr) (s : State) : Host.Outcome State Fault Refusal :=
  rmwInstr 0xCE decByte (.abs addr) s

/-- DEC zp,X, opcode D6: decrement memory (R191). -/
def execDecZpx (zp : Byte) (s : State) : Host.Outcome State Fault Refusal :=
  rmwInstr 0xD6 decByte (.zpx zp) s

/-- DEC base,X, opcode DE: decrement memory (R191). -/
def execDecAbx (base : Addr) (s : State) : Host.Outcome State Fault Refusal :=
  rmwInstr 0xDE decByte (.abx base) s

/-- INX, opcode E8: X <- X + 1 mod 256, then set_NZ(X) (R192). -/
def execInx (s : State) : Host.Outcome State Fault Refusal :=
  implied 0xE8 (fun t => flagNZ (t.x + 1) (setX (t.x + 1) t)) s

/-- INY, opcode C8: Y <- Y + 1 mod 256, then set_NZ(Y) (R193). -/
def execIny (s : State) : Host.Outcome State Fault Refusal :=
  implied 0xC8 (fun t => flagNZ (t.y + 1) (setY (t.y + 1) t)) s

/-- DEX, opcode CA: X <- X - 1 mod 256, then set_NZ(X) (R194). -/
def execDex (s : State) : Host.Outcome State Fault Refusal :=
  implied 0xCA (fun t => flagNZ (t.x - 1) (setX (t.x - 1) t)) s

/-- DEY, opcode 88: Y <- Y - 1 mod 256, then set_NZ(Y) (R195). -/
def execDey (s : State) : Host.Outcome State Fault Refusal :=
  implied 0x88 (fun t => flagNZ (t.y - 1) (setY (t.y - 1) t)) s

end Sys2Proof.Machine
end

