-- ==== Sys2Proof/Machine/Control.lean ====
section
/-! DEFINITION. Control transfer (45_control_transfer.md, R240 to R254). -/

namespace Sys2Proof.Machine

/-- BCC disp, opcode 90: branch if C clear (R241, R240). -/
def execBcc (disp : Byte) (s : State) : Host.Outcome State Fault Refusal :=
  branch 0x90 (fun f => !f.c) disp s

/-- BCS disp, opcode B0: branch if C set (R242, R240). -/
def execBcs (disp : Byte) (s : State) : Host.Outcome State Fault Refusal :=
  branch 0xB0 (fun f => f.c) disp s

/-- BEQ disp, opcode F0: branch if Z set (R243, R240). -/
def execBeq (disp : Byte) (s : State) : Host.Outcome State Fault Refusal :=
  branch 0xF0 (fun f => f.z) disp s

/-- BMI disp, opcode 30: branch if N set (R244, R240). -/
def execBmi (disp : Byte) (s : State) : Host.Outcome State Fault Refusal :=
  branch 0x30 (fun f => f.n) disp s

/-- BNE disp, opcode D0: branch if Z clear (R245, R240). -/
def execBne (disp : Byte) (s : State) : Host.Outcome State Fault Refusal :=
  branch 0xD0 (fun f => !f.z) disp s

/-- BPL disp, opcode 10: branch if N clear (R246, R240). -/
def execBpl (disp : Byte) (s : State) : Host.Outcome State Fault Refusal :=
  branch 0x10 (fun f => !f.n) disp s

/-- BVC disp, opcode 50: branch if V clear (R247, R240). -/
def execBvc (disp : Byte) (s : State) : Host.Outcome State Fault Refusal :=
  branch 0x50 (fun f => !f.v) disp s

/-- BVS disp, opcode 70: branch if V set (R248, R240). -/
def execBvs (disp : Byte) (s : State) : Host.Outcome State Fault Refusal :=
  branch 0x70 (fun f => f.v) disp s

/-- JMP addr, opcode 4C (R249): PC is the operand word. -/
def execJmpAbs (addr : Addr) (s : State) : Host.Outcome State Fault Refusal :=
  charge 0x4C 0 (setPC addr (fetch 3 s))

/-- JMP (ptr), opcode 6C (R249, R113): PC is the word at the pointer. -/
def execJmpInd (ptr : Addr) (s : State) : Host.Outcome State Fault Refusal :=
  let t := fetch 3 s
  let wrap := Config.jmpIndPageWrap
  charge 0x6C 0 (setPC (jmpIndTarget wrap ptr t) (logReads [ptr, jmpIndHighAddr wrap ptr] t))

/-- JSR addr, opcode 20 (R250): the address of its own last byte is pushed, high byte first; both operand bytes have been
read before (R64). -/
def execJsr (addr : Addr) (s : State) : Host.Outcome State Fault Refusal :=
  charge 0x20 0 (setPC addr (pushWord (s.pc + 2) (fetch 3 s)))

/-- RTS, opcode 60 (R251): the pulled word plus one. -/
def execRts (s : State) : Host.Outcome State Fault Refusal :=
  implied 0x60 (fun t => let w := pullWord t; setPC (w.1 + 1) w.2) s

/-- RTI, opcode 40 (R252): the trap return. -/
def execRti (s : State) : Host.Outcome State Fault Refusal :=
  implied 0x40 trapReturn s

/-- BRK, opcode 00 (R253, R139): the trap entry, which halts, and its charge of 7. -/
def execBrk (s : State) : Host.Outcome State Fault Refusal :=
  implied 0x00 trapEntry s

end Sys2Proof.Machine
end

