-- ==== Sys2Proof/Machine/LoadStore.lean ====
section
/-! DEFINITION. Loads and stores (42_load_store.md, R160 to R166). -/

namespace Sys2Proof.Machine

/-- A <- M, then set_NZ(A) (R160). -/
def loadA (m : Byte) (s : State) : State := flagNZ m (setA m s)

/-- X <- M, then set_NZ(X) (R161). -/
def loadX (m : Byte) (s : State) : State := flagNZ m (setX m s)

/-- Y <- M, then set_NZ(Y) (R162). -/
def loadY (m : Byte) (s : State) : State := flagNZ m (setY m s)

/-- LDA (zp,X), opcode A1: load A (R160). -/
def execLdaIzx (zp : Byte) (s : State) : Host.Outcome State Fault Refusal :=
  readInstr 0xA1 loadA (.mem (.izx zp)) s

/-- LDA zp, opcode A5: load A (R160). -/
def execLdaZp (zp : Byte) (s : State) : Host.Outcome State Fault Refusal :=
  readInstr 0xA5 loadA (.mem (.zp zp)) s

/-- LDA #value, opcode A9: load A (R160). -/
def execLdaImm (value : Byte) (s : State) : Host.Outcome State Fault Refusal :=
  readInstr 0xA9 loadA (.imm value) s

/-- LDA addr, opcode AD: load A (R160). -/
def execLdaAbs (addr : Addr) (s : State) : Host.Outcome State Fault Refusal :=
  readInstr 0xAD loadA (.mem (.abs addr)) s

/-- LDA (zp),Y, opcode B1: load A (R160). -/
def execLdaIzy (zp : Byte) (s : State) : Host.Outcome State Fault Refusal :=
  readInstr 0xB1 loadA (.mem (.izy zp)) s

/-- LDA zp,X, opcode B5: load A (R160). -/
def execLdaZpx (zp : Byte) (s : State) : Host.Outcome State Fault Refusal :=
  readInstr 0xB5 loadA (.mem (.zpx zp)) s

/-- LDA base,Y, opcode B9: load A (R160). -/
def execLdaAby (base : Addr) (s : State) : Host.Outcome State Fault Refusal :=
  readInstr 0xB9 loadA (.mem (.aby base)) s

/-- LDA base,X, opcode BD: load A (R160). -/
def execLdaAbx (base : Addr) (s : State) : Host.Outcome State Fault Refusal :=
  readInstr 0xBD loadA (.mem (.abx base)) s

/-- LDX #value, opcode A2: load X (R161). -/
def execLdxImm (value : Byte) (s : State) : Host.Outcome State Fault Refusal :=
  readInstr 0xA2 loadX (.imm value) s

/-- LDX zp, opcode A6: load X (R161). -/
def execLdxZp (zp : Byte) (s : State) : Host.Outcome State Fault Refusal :=
  readInstr 0xA6 loadX (.mem (.zp zp)) s

/-- LDX addr, opcode AE: load X (R161). -/
def execLdxAbs (addr : Addr) (s : State) : Host.Outcome State Fault Refusal :=
  readInstr 0xAE loadX (.mem (.abs addr)) s

/-- LDX zp,Y, opcode B6: load X (R161). -/
def execLdxZpy (zp : Byte) (s : State) : Host.Outcome State Fault Refusal :=
  readInstr 0xB6 loadX (.mem (.zpy zp)) s

/-- LDX base,Y, opcode BE: load X (R161). -/
def execLdxAby (base : Addr) (s : State) : Host.Outcome State Fault Refusal :=
  readInstr 0xBE loadX (.mem (.aby base)) s

/-- LDY #value, opcode A0: load Y (R162). -/
def execLdyImm (value : Byte) (s : State) : Host.Outcome State Fault Refusal :=
  readInstr 0xA0 loadY (.imm value) s

/-- LDY zp, opcode A4: load Y (R162). -/
def execLdyZp (zp : Byte) (s : State) : Host.Outcome State Fault Refusal :=
  readInstr 0xA4 loadY (.mem (.zp zp)) s

/-- LDY addr, opcode AC: load Y (R162). -/
def execLdyAbs (addr : Addr) (s : State) : Host.Outcome State Fault Refusal :=
  readInstr 0xAC loadY (.mem (.abs addr)) s

/-- LDY zp,X, opcode B4: load Y (R162). -/
def execLdyZpx (zp : Byte) (s : State) : Host.Outcome State Fault Refusal :=
  readInstr 0xB4 loadY (.mem (.zpx zp)) s

/-- LDY base,X, opcode BC: load Y (R162). -/
def execLdyAbx (base : Addr) (s : State) : Host.Outcome State Fault Refusal :=
  readInstr 0xBC loadY (.mem (.abx base)) s

/-- STA (zp,X), opcode 81: store A (R163). -/
def execStaIzx (zp : Byte) (s : State) : Host.Outcome State Fault Refusal :=
  storeInstr 0x81 State.a (.izx zp) s

/-- STA zp, opcode 85: store A (R163). -/
def execStaZp (zp : Byte) (s : State) : Host.Outcome State Fault Refusal :=
  storeInstr 0x85 State.a (.zp zp) s

/-- STA addr, opcode 8D: store A (R163). -/
def execStaAbs (addr : Addr) (s : State) : Host.Outcome State Fault Refusal :=
  storeInstr 0x8D State.a (.abs addr) s

/-- STA (zp),Y, opcode 91: store A (R163). -/
def execStaIzy (zp : Byte) (s : State) : Host.Outcome State Fault Refusal :=
  storeInstr 0x91 State.a (.izy zp) s

/-- STA zp,X, opcode 95: store A (R163). -/
def execStaZpx (zp : Byte) (s : State) : Host.Outcome State Fault Refusal :=
  storeInstr 0x95 State.a (.zpx zp) s

/-- STA base,Y, opcode 99: store A (R163). -/
def execStaAby (base : Addr) (s : State) : Host.Outcome State Fault Refusal :=
  storeInstr 0x99 State.a (.aby base) s

/-- STA base,X, opcode 9D: store A (R163). -/
def execStaAbx (base : Addr) (s : State) : Host.Outcome State Fault Refusal :=
  storeInstr 0x9D State.a (.abx base) s

/-- STX zp, opcode 86: store X (R164). -/
def execStxZp (zp : Byte) (s : State) : Host.Outcome State Fault Refusal :=
  storeInstr 0x86 State.x (.zp zp) s

/-- STX addr, opcode 8E: store X (R164). -/
def execStxAbs (addr : Addr) (s : State) : Host.Outcome State Fault Refusal :=
  storeInstr 0x8E State.x (.abs addr) s

/-- STX zp,Y, opcode 96: store X (R164). -/
def execStxZpy (zp : Byte) (s : State) : Host.Outcome State Fault Refusal :=
  storeInstr 0x96 State.x (.zpy zp) s

/-- STY zp, opcode 84: store Y (R165). -/
def execStyZp (zp : Byte) (s : State) : Host.Outcome State Fault Refusal :=
  storeInstr 0x84 State.y (.zp zp) s

/-- STY addr, opcode 8C: store Y (R165). -/
def execStyAbs (addr : Addr) (s : State) : Host.Outcome State Fault Refusal :=
  storeInstr 0x8C State.y (.abs addr) s

/-- STY zp,X, opcode 94: store Y (R165). -/
def execStyZpx (zp : Byte) (s : State) : Host.Outcome State Fault Refusal :=
  storeInstr 0x94 State.y (.zpx zp) s

end Sys2Proof.Machine
end

