-- ==== Sys2Proof/Machine/Shift.lean ====
section
/-! DEFINITION. Shifts and rotates (44_shift_rotate.md, R220 to R224): the accumulator form and the memory forms of each. -/

namespace Sys2Proof.Machine

/-- ASL zp, opcode 06: shift left (R220). -/
def execAslZp (zp : Byte) (s : State) : Host.Outcome State Fault Refusal :=
  rmwInstr 0x06 asl (.zp zp) s

/-- ASL A, opcode 0A: shift left (R220). -/
def execAslAcc (s : State) : Host.Outcome State Fault Refusal :=
  accInstr 0x0A asl s

/-- ASL addr, opcode 0E: shift left (R220). -/
def execAslAbs (addr : Addr) (s : State) : Host.Outcome State Fault Refusal :=
  rmwInstr 0x0E asl (.abs addr) s

/-- ASL zp,X, opcode 16: shift left (R220). -/
def execAslZpx (zp : Byte) (s : State) : Host.Outcome State Fault Refusal :=
  rmwInstr 0x16 asl (.zpx zp) s

/-- ASL base,X, opcode 1E: shift left (R220). -/
def execAslAbx (base : Addr) (s : State) : Host.Outcome State Fault Refusal :=
  rmwInstr 0x1E asl (.abx base) s

/-- LSR zp, opcode 46: shift right (R221). -/
def execLsrZp (zp : Byte) (s : State) : Host.Outcome State Fault Refusal :=
  rmwInstr 0x46 lsr (.zp zp) s

/-- LSR A, opcode 4A: shift right (R221). -/
def execLsrAcc (s : State) : Host.Outcome State Fault Refusal :=
  accInstr 0x4A lsr s

/-- LSR addr, opcode 4E: shift right (R221). -/
def execLsrAbs (addr : Addr) (s : State) : Host.Outcome State Fault Refusal :=
  rmwInstr 0x4E lsr (.abs addr) s

/-- LSR zp,X, opcode 56: shift right (R221). -/
def execLsrZpx (zp : Byte) (s : State) : Host.Outcome State Fault Refusal :=
  rmwInstr 0x56 lsr (.zpx zp) s

/-- LSR base,X, opcode 5E: shift right (R221). -/
def execLsrAbx (base : Addr) (s : State) : Host.Outcome State Fault Refusal :=
  rmwInstr 0x5E lsr (.abx base) s

/-- ROL zp, opcode 26: rotate left (R222). -/
def execRolZp (zp : Byte) (s : State) : Host.Outcome State Fault Refusal :=
  rmwInstr 0x26 rol (.zp zp) s

/-- ROL A, opcode 2A: rotate left (R222). -/
def execRolAcc (s : State) : Host.Outcome State Fault Refusal :=
  accInstr 0x2A rol s

/-- ROL addr, opcode 2E: rotate left (R222). -/
def execRolAbs (addr : Addr) (s : State) : Host.Outcome State Fault Refusal :=
  rmwInstr 0x2E rol (.abs addr) s

/-- ROL zp,X, opcode 36: rotate left (R222). -/
def execRolZpx (zp : Byte) (s : State) : Host.Outcome State Fault Refusal :=
  rmwInstr 0x36 rol (.zpx zp) s

/-- ROL base,X, opcode 3E: rotate left (R222). -/
def execRolAbx (base : Addr) (s : State) : Host.Outcome State Fault Refusal :=
  rmwInstr 0x3E rol (.abx base) s

/-- ROR zp, opcode 66: rotate right (R223). -/
def execRorZp (zp : Byte) (s : State) : Host.Outcome State Fault Refusal :=
  rmwInstr 0x66 ror (.zp zp) s

/-- ROR A, opcode 6A: rotate right (R223). -/
def execRorAcc (s : State) : Host.Outcome State Fault Refusal :=
  accInstr 0x6A ror s

/-- ROR addr, opcode 6E: rotate right (R223). -/
def execRorAbs (addr : Addr) (s : State) : Host.Outcome State Fault Refusal :=
  rmwInstr 0x6E ror (.abs addr) s

/-- ROR zp,X, opcode 76: rotate right (R223). -/
def execRorZpx (zp : Byte) (s : State) : Host.Outcome State Fault Refusal :=
  rmwInstr 0x76 ror (.zpx zp) s

/-- ROR base,X, opcode 7E: rotate right (R223). -/
def execRorAbx (base : Addr) (s : State) : Host.Outcome State Fault Refusal :=
  rmwInstr 0x7E ror (.abx base) s

end Sys2Proof.Machine
end

