-- ==== Sys2Proof/Machine/StackFlags.lean ====
section
/-! DEFINITION. Stack, register transfer, flag and no-operation instructions (46_stack_transfer_flags.md, R270 to R287). -/

namespace Sys2Proof.Machine

/-- PHA, opcode 48: Push(A) (R270). -/
def execPha (s : State) : Host.Outcome State Fault Refusal :=
  implied 0x48 (fun t => push t.a t) s

/-- PHP, opcode 08: Push(pack()) (R271). -/
def execPhp (s : State) : Host.Outcome State Fault Refusal :=
  implied 0x08 (fun t => push (pack t.flags) t) s

/-- PLA, opcode 68: A <- Pull(), then set_NZ(A) (R272). -/
def execPla (s : State) : Host.Outcome State Fault Refusal :=
  implied 0x68 (fun t => let p := pull t; flagNZ p.1 (setA p.1 p.2)) s

/-- PLP, opcode 28: unpack(Pull()) (R273). -/
def execPlp (s : State) : Host.Outcome State Fault Refusal :=
  implied 0x28 (fun t => let p := pull t; setFlags (unpack p.1) p.2) s

/-- TAX, opcode AA: X <- A, then set_NZ(X) (R274). -/
def execTax (s : State) : Host.Outcome State Fault Refusal :=
  implied 0xAA (fun t => flagNZ t.a (setX t.a t)) s

/-- TAY, opcode A8: Y <- A, then set_NZ(Y); TAY does nothing else (conflict C8) (R275). -/
def execTay (s : State) : Host.Outcome State Fault Refusal :=
  implied 0xA8 (fun t => flagNZ t.a (setY t.a t)) s

/-- TSX, opcode BA: X <- SP, then set_NZ(X) (R276). -/
def execTsx (s : State) : Host.Outcome State Fault Refusal :=
  implied 0xBA (fun t => flagNZ t.sp (setX t.sp t)) s

/-- TXA, opcode 8A: A <- X, then set_NZ(A) (R277). -/
def execTxa (s : State) : Host.Outcome State Fault Refusal :=
  implied 0x8A (fun t => flagNZ t.x (setA t.x t)) s

/-- TXS, opcode 9A: SP <- X, no flag (R278). -/
def execTxs (s : State) : Host.Outcome State Fault Refusal :=
  implied 0x9A (fun t => setSP t.x t) s

/-- TYA, opcode 98: A <- Y, then set_NZ(A) (R279). -/
def execTya (s : State) : Host.Outcome State Fault Refusal :=
  implied 0x98 (fun t => flagNZ t.y (setA t.y t)) s

/-- CLC, opcode 18: C <- 0 (R280). -/
def execClc (s : State) : Host.Outcome State Fault Refusal :=
  implied 0x18 (fun t => setFlags { t.flags with c := false } t) s

/-- CLD, opcode D8: D <- 0 (R281). -/
def execCld (s : State) : Host.Outcome State Fault Refusal :=
  implied 0xD8 (fun t => setFlags { t.flags with d := false } t) s

/-- CLI, opcode 58: I <- 0 (R282). -/
def execCli (s : State) : Host.Outcome State Fault Refusal :=
  implied 0x58 (fun t => setFlags { t.flags with i := false } t) s

/-- CLV, opcode B8: V <- 0 (R283). -/
def execClv (s : State) : Host.Outcome State Fault Refusal :=
  implied 0xB8 (fun t => setFlags { t.flags with v := false } t) s

/-- SEC, opcode 38: C <- 1 (R284). -/
def execSec (s : State) : Host.Outcome State Fault Refusal :=
  implied 0x38 (fun t => setFlags { t.flags with c := true } t) s

/-- SED, opcode F8: D <- 1 (R285). -/
def execSed (s : State) : Host.Outcome State Fault Refusal :=
  implied 0xF8 (fun t => setFlags { t.flags with d := true } t) s

/-- SEI, opcode 78: I <- 1 (R286). -/
def execSei (s : State) : Host.Outcome State Fault Refusal :=
  implied 0x78 (fun t => setFlags { t.flags with i := true } t) s

/-- NOP, opcode EA: nothing but the fetch and the charge (R287). -/
def execNop (s : State) : Host.Outcome State Fault Refusal :=
  implied 0xEA (fun t => t) s

end Sys2Proof.Machine
end

