-- ==== Sys2Proof/Machine/Dispatch.lean ====
section
/-! DEFINITION. The dispatcher (R137): each constructor's arm calls its own meaning. -/

namespace Sys2Proof.Machine

def exec (i : Instr) (s : State) : Host.Outcome State Fault Refusal :=
  match i with
  | .brk => Sys2Proof.Machine.execBrk s
  | .oraIzx zp => Sys2Proof.Machine.execOraIzx zp s
  | .oraZp zp => Sys2Proof.Machine.execOraZp zp s
  | .aslZp zp => Sys2Proof.Machine.execAslZp zp s
  | .php => Sys2Proof.Machine.execPhp s
  | .oraImm value => Sys2Proof.Machine.execOraImm value s
  | .aslAcc => Sys2Proof.Machine.execAslAcc s
  | .oraAbs addr => Sys2Proof.Machine.execOraAbs addr s
  | .aslAbs addr => Sys2Proof.Machine.execAslAbs addr s
  | .bpl disp => Sys2Proof.Machine.execBpl disp s
  | .oraIzy zp => Sys2Proof.Machine.execOraIzy zp s
  | .oraZpx zp => Sys2Proof.Machine.execOraZpx zp s
  | .aslZpx zp => Sys2Proof.Machine.execAslZpx zp s
  | .clc => Sys2Proof.Machine.execClc s
  | .oraAby base => Sys2Proof.Machine.execOraAby base s
  | .oraAbx base => Sys2Proof.Machine.execOraAbx base s
  | .aslAbx base => Sys2Proof.Machine.execAslAbx base s
  | .jsr addr => Sys2Proof.Machine.execJsr addr s
  | .andIzx zp => Sys2Proof.Machine.execAndIzx zp s
  | .bitZp zp => Sys2Proof.Machine.execBitZp zp s
  | .andZp zp => Sys2Proof.Machine.execAndZp zp s
  | .rolZp zp => Sys2Proof.Machine.execRolZp zp s
  | .plp => Sys2Proof.Machine.execPlp s
  | .andImm value => Sys2Proof.Machine.execAndImm value s
  | .rolAcc => Sys2Proof.Machine.execRolAcc s
  | .bitAbs addr => Sys2Proof.Machine.execBitAbs addr s
  | .andAbs addr => Sys2Proof.Machine.execAndAbs addr s
  | .rolAbs addr => Sys2Proof.Machine.execRolAbs addr s
  | .bmi disp => Sys2Proof.Machine.execBmi disp s
  | .andIzy zp => Sys2Proof.Machine.execAndIzy zp s
  | .andZpx zp => Sys2Proof.Machine.execAndZpx zp s
  | .rolZpx zp => Sys2Proof.Machine.execRolZpx zp s
  | .sec => Sys2Proof.Machine.execSec s
  | .andAby base => Sys2Proof.Machine.execAndAby base s
  | .andAbx base => Sys2Proof.Machine.execAndAbx base s
  | .rolAbx base => Sys2Proof.Machine.execRolAbx base s
  | .rti => Sys2Proof.Machine.execRti s
  | .eorIzx zp => Sys2Proof.Machine.execEorIzx zp s
  | .eorZp zp => Sys2Proof.Machine.execEorZp zp s
  | .lsrZp zp => Sys2Proof.Machine.execLsrZp zp s
  | .pha => Sys2Proof.Machine.execPha s
  | .eorImm value => Sys2Proof.Machine.execEorImm value s
  | .lsrAcc => Sys2Proof.Machine.execLsrAcc s
  | .jmpAbs addr => Sys2Proof.Machine.execJmpAbs addr s
  | .eorAbs addr => Sys2Proof.Machine.execEorAbs addr s
  | .lsrAbs addr => Sys2Proof.Machine.execLsrAbs addr s
  | .bvc disp => Sys2Proof.Machine.execBvc disp s
  | .eorIzy zp => Sys2Proof.Machine.execEorIzy zp s
  | .eorZpx zp => Sys2Proof.Machine.execEorZpx zp s
  | .lsrZpx zp => Sys2Proof.Machine.execLsrZpx zp s
  | .cli => Sys2Proof.Machine.execCli s
  | .eorAby base => Sys2Proof.Machine.execEorAby base s
  | .eorAbx base => Sys2Proof.Machine.execEorAbx base s
  | .lsrAbx base => Sys2Proof.Machine.execLsrAbx base s
  | .rts => Sys2Proof.Machine.execRts s
  | .adcIzx zp => Sys2Proof.Machine.execAdcIzx zp s
  | .adcZp zp => Sys2Proof.Machine.execAdcZp zp s
  | .rorZp zp => Sys2Proof.Machine.execRorZp zp s
  | .pla => Sys2Proof.Machine.execPla s
  | .adcImm value => Sys2Proof.Machine.execAdcImm value s
  | .rorAcc => Sys2Proof.Machine.execRorAcc s
  | .jmpInd ptr => Sys2Proof.Machine.execJmpInd ptr s
  | .adcAbs addr => Sys2Proof.Machine.execAdcAbs addr s
  | .rorAbs addr => Sys2Proof.Machine.execRorAbs addr s
  | .bvs disp => Sys2Proof.Machine.execBvs disp s
  | .adcIzy zp => Sys2Proof.Machine.execAdcIzy zp s
  | .adcZpx zp => Sys2Proof.Machine.execAdcZpx zp s
  | .rorZpx zp => Sys2Proof.Machine.execRorZpx zp s
  | .sei => Sys2Proof.Machine.execSei s
  | .adcAby base => Sys2Proof.Machine.execAdcAby base s
  | .adcAbx base => Sys2Proof.Machine.execAdcAbx base s
  | .rorAbx base => Sys2Proof.Machine.execRorAbx base s
  | .staIzx zp => Sys2Proof.Machine.execStaIzx zp s
  | .styZp zp => Sys2Proof.Machine.execStyZp zp s
  | .staZp zp => Sys2Proof.Machine.execStaZp zp s
  | .stxZp zp => Sys2Proof.Machine.execStxZp zp s
  | .dey => Sys2Proof.Machine.execDey s
  | .txa => Sys2Proof.Machine.execTxa s
  | .styAbs addr => Sys2Proof.Machine.execStyAbs addr s
  | .staAbs addr => Sys2Proof.Machine.execStaAbs addr s
  | .stxAbs addr => Sys2Proof.Machine.execStxAbs addr s
  | .bcc disp => Sys2Proof.Machine.execBcc disp s
  | .staIzy zp => Sys2Proof.Machine.execStaIzy zp s
  | .styZpx zp => Sys2Proof.Machine.execStyZpx zp s
  | .staZpx zp => Sys2Proof.Machine.execStaZpx zp s
  | .stxZpy zp => Sys2Proof.Machine.execStxZpy zp s
  | .tya => Sys2Proof.Machine.execTya s
  | .staAby base => Sys2Proof.Machine.execStaAby base s
  | .txs => Sys2Proof.Machine.execTxs s
  | .staAbx base => Sys2Proof.Machine.execStaAbx base s
  | .ldyImm value => Sys2Proof.Machine.execLdyImm value s
  | .ldaIzx zp => Sys2Proof.Machine.execLdaIzx zp s
  | .ldxImm value => Sys2Proof.Machine.execLdxImm value s
  | .ldyZp zp => Sys2Proof.Machine.execLdyZp zp s
  | .ldaZp zp => Sys2Proof.Machine.execLdaZp zp s
  | .ldxZp zp => Sys2Proof.Machine.execLdxZp zp s
  | .tay => Sys2Proof.Machine.execTay s
  | .ldaImm value => Sys2Proof.Machine.execLdaImm value s
  | .tax => Sys2Proof.Machine.execTax s
  | .ldyAbs addr => Sys2Proof.Machine.execLdyAbs addr s
  | .ldaAbs addr => Sys2Proof.Machine.execLdaAbs addr s
  | .ldxAbs addr => Sys2Proof.Machine.execLdxAbs addr s
  | .bcs disp => Sys2Proof.Machine.execBcs disp s
  | .ldaIzy zp => Sys2Proof.Machine.execLdaIzy zp s
  | .ldyZpx zp => Sys2Proof.Machine.execLdyZpx zp s
  | .ldaZpx zp => Sys2Proof.Machine.execLdaZpx zp s
  | .ldxZpy zp => Sys2Proof.Machine.execLdxZpy zp s
  | .clv => Sys2Proof.Machine.execClv s
  | .ldaAby base => Sys2Proof.Machine.execLdaAby base s
  | .tsx => Sys2Proof.Machine.execTsx s
  | .ldyAbx base => Sys2Proof.Machine.execLdyAbx base s
  | .ldaAbx base => Sys2Proof.Machine.execLdaAbx base s
  | .ldxAby base => Sys2Proof.Machine.execLdxAby base s
  | .cpyImm value => Sys2Proof.Machine.execCpyImm value s
  | .cmpIzx zp => Sys2Proof.Machine.execCmpIzx zp s
  | .cpyZp zp => Sys2Proof.Machine.execCpyZp zp s
  | .cmpZp zp => Sys2Proof.Machine.execCmpZp zp s
  | .decZp zp => Sys2Proof.Machine.execDecZp zp s
  | .iny => Sys2Proof.Machine.execIny s
  | .cmpImm value => Sys2Proof.Machine.execCmpImm value s
  | .dex => Sys2Proof.Machine.execDex s
  | .cpyAbs addr => Sys2Proof.Machine.execCpyAbs addr s
  | .cmpAbs addr => Sys2Proof.Machine.execCmpAbs addr s
  | .decAbs addr => Sys2Proof.Machine.execDecAbs addr s
  | .bne disp => Sys2Proof.Machine.execBne disp s
  | .cmpIzy zp => Sys2Proof.Machine.execCmpIzy zp s
  | .cmpZpx zp => Sys2Proof.Machine.execCmpZpx zp s
  | .decZpx zp => Sys2Proof.Machine.execDecZpx zp s
  | .cld => Sys2Proof.Machine.execCld s
  | .cmpAby base => Sys2Proof.Machine.execCmpAby base s
  | .cmpAbx base => Sys2Proof.Machine.execCmpAbx base s
  | .decAbx base => Sys2Proof.Machine.execDecAbx base s
  | .cpxImm value => Sys2Proof.Machine.execCpxImm value s
  | .sbcIzx zp => Sys2Proof.Machine.execSbcIzx zp s
  | .cpxZp zp => Sys2Proof.Machine.execCpxZp zp s
  | .sbcZp zp => Sys2Proof.Machine.execSbcZp zp s
  | .incZp zp => Sys2Proof.Machine.execIncZp zp s
  | .inx => Sys2Proof.Machine.execInx s
  | .sbcImm value => Sys2Proof.Machine.execSbcImm value s
  | .nop => Sys2Proof.Machine.execNop s
  | .cpxAbs addr => Sys2Proof.Machine.execCpxAbs addr s
  | .sbcAbs addr => Sys2Proof.Machine.execSbcAbs addr s
  | .incAbs addr => Sys2Proof.Machine.execIncAbs addr s
  | .beq disp => Sys2Proof.Machine.execBeq disp s
  | .sbcIzy zp => Sys2Proof.Machine.execSbcIzy zp s
  | .sbcZpx zp => Sys2Proof.Machine.execSbcZpx zp s
  | .incZpx zp => Sys2Proof.Machine.execIncZpx zp s
  | .sed => Sys2Proof.Machine.execSed s
  | .sbcAby base => Sys2Proof.Machine.execSbcAby base s
  | .sbcAbx base => Sys2Proof.Machine.execSbcAbx base s
  | .incAbx base => Sys2Proof.Machine.execIncAbx base s

end Sys2Proof.Machine
end

