-- ==== Sys2Proof/Machine/Fetch.lean ====
section
/-! DEFINITION. What stands around an instruction: when the CORE dispatches one (R131, R147), the fetch and decode of it
(R134, R135), and placing an instruction where the next fetch reads. -/

namespace Sys2Proof.Machine

/-- The test of the dispatch loop (R130, R131, R147): RUNNING and a positive balance. -/
def canDispatch (s : State) : Bool := s.runState == .running && decide (0 < s.cyclesAvailable)

/-- The opcode byte at PC (R134). -/
def fetchOpcode (s : State) : Byte := busRead s.pc s

/-- The instruction at PC (R134, R135), its bytes at consecutive addresses mod 2^16 (R70); `none` is an unknown opcode. The
decoder uses the bytes after the opcode only as far as the mode has them. -/
def fetchInstr (s : State) : Option Instr :=
  decodeOp (fetchOpcode s) (busRead (s.pc + 1) s) (busRead (s.pc + 2) s)

/-- Bytes written at consecutive addresses mod 2^16, from outside the CORE: the access log does not see them. -/
def placeBytes (a : Addr) : List Byte → Memory → Memory
  | [], m => m
  | v :: vs, m => placeBytes (a + 1) vs (m.write a v)

end Sys2Proof.Machine
end

