-- ==== Sys2Proof/Machine/Step.lean ====
section
/-! DEFINITION. One step of the CORE: one turn of the loop of `run` (R130, R146). -/

namespace Sys2Proof.Machine

/-- The `step()` of R146: the instruction at PC, or the halt on an unknown opcode (R140). -/
def dispatchStep (s : State) : Host.Outcome State Fault Refusal :=
  match fetchInstr s with
  | some i => exec i s
  | none => .next (haltUnknown (fetchOpcode s) s)

/-- One turn of the loop of `run` (R130, R131): an instruction while the CORE is RUNNING on a positive balance. Otherwise
`run` has returned (R141, R147) and nothing changes until the host calls it again. Log entries 4 and 5. -/
def step (s : State) : Host.Outcome State Fault Refusal :=
  if canDispatch s then dispatchStep s else .next s

/-- The state with a table instruction stored where `step` fetches next (R134), able to dispatch it: RUNNING, and a balance of
at least 1, as the host single-steps (R310). Log entry 4. -/
def State.withFetchWord (s : State) (nbits w : Nat) : State :=
  { s with
    mem := placeBytes s.pc (tableBytes nbits w) s.mem
    runState := .running
    haltReason := .none
    cyclesAvailable := if 0 < s.cyclesAvailable then s.cyclesAvailable else 1 }

end Sys2Proof.Machine
end

