-- ==== Sys2Proof/Machine/Classes.lean ====
section
/-! DEFINITION. The instruction classes of R18, read off the opcode table's mnemonic and mode, and what follows from them
about an instruction as a whole: its memory operand, whether it crosses a page, its debit (R148), its stores (R53, R58). -/

namespace Sys2Proof.Machine

/-- The classes of R18. -/
inductive InstrClass where
  | read
  | write
  | rmw
  | other
  deriving DecidableEq, Repr

/-- The mnemonics of the *read* class (R18). -/
def readMnemonics : List Mnemonic := [.lda, .ldx, .ldy, .adc, .sbc, .and, .ora, .eor, .cmp, .cpx, .cpy, .bit]

/-- The mnemonics of the *write* class (R18). -/
def writeMnemonics : List Mnemonic := [.sta, .stx, .sty]

/-- The mnemonics of the *RMW* class (R18), in a memory mode. -/
def rmwMnemonics : List Mnemonic := [.asl, .lsr, .rol, .ror, .inc, .dec]

/-- The class of an instruction (R18). -/
def instrClass (i : Instr) : InstrClass :=
  if readMnemonics.contains i.mnemonic then .read
  else if writeMnemonics.contains i.mnemonic then .write
  else if rmwMnemonics.contains i.mnemonic && i.mode != .acc then .rmw
  else .other

/-- The memory operand a mode makes of the operand bytes (R72, R100); the other modes have none. -/
def memOperandOf (mode : AddrMode) (lo hi : Byte) : Option MemOperand :=
  match mode with
  | .imp => none
  | .acc => none
  | .imm => none
  | .zp => some (.zp lo)
  | .zpx => some (.zpx lo)
  | .zpy => some (.zpy lo)
  | .abs => some (.abs (word16 hi lo))
  | .abx => some (.abx (word16 hi lo))
  | .aby => some (.aby (word16 hi lo))
  | .ind => none
  | .izx => some (.izx lo)
  | .izy => some (.izy lo)
  | .rel => none

/-- The memory operand of an instruction (R18): none outside the three classes (JMP and JSR use their word as a target)
and none for IMM. -/
def memOperand? (i : Instr) : Option MemOperand :=
  if instrClass i = .other then none
  else memOperandOf i.mode ((operandBytes i).getD 0 0) ((operandBytes i).getD 1 0)

/-- Whether the instruction sets `page_crossed` (R115). -/
def crossesPage (i : Instr) (s : State) : Bool :=
  match memOperand? i with
  | some m => pageCross m s
  | none => false

/-- The condition of a branch mnemonic (R241 to R248); `none` for the others. -/
def branchCond? (m : Mnemonic) (f : Flags) : Option Bool :=
  match m with
  | .bcc => some (!f.c)
  | .bcs => some f.c
  | .beq => some f.z
  | .bmi => some f.n
  | .bne => some (!f.z)
  | .bpl => some (!f.n)
  | .bvc => some (!f.v)
  | .bvs => some f.v
  | _ => none

/-- The address of the next instruction (R24). -/
def nextAddr (i : Instr) (s : State) : Addr := s.pc + BitVec.ofNat 16 i.length

/-- `branch_extra` (R240): 0, or 1 for a taken branch, or 2 for a taken branch to another page. -/
def branchExtra (i : Instr) (s : State) : Nat :=
  match branchCond? i.mnemonic s.flags with
  | some true =>
    if crossed (nextAddr i s) (branchTarget (nextAddr i s) ((operandBytes i).getD 0 0)) then 2 else 1
  | some false => 0
  | none => 0

/-- What the instruction is debited when it completes (R138, R148). -/
def debit (i : Instr) (s : State) : Nat := chargeOf (opcode i) (crossesPage i s) (branchExtra i s)

/-- The addresses the instruction stores to, in order (R53, R58): EA for the write and RMW classes, the stack bytes for
PHA, PHP, JSR and BRK, nothing for the others. -/
def storedAddrs (i : Instr) (s : State) : List Addr :=
  if instrClass i = .write || instrClass i = .rmw then
    match memOperand? i with
    | some m => [effAddr m s]
    | none => []
  else
    match i.mnemonic with
    | .pha => [stackAddr s.sp]
    | .php => [stackAddr s.sp]
    | .jsr => [stackAddr s.sp, stackAddr (s.sp - 1)]
    | .brk => [stackAddr s.sp, stackAddr (s.sp - 1), stackAddr (s.sp - 2)]
    | _ => []

end Sys2Proof.Machine
end

