-- ==== Sys2Proof/Machine/Run.lean ====
section
/-! DEFINITION. The control port and the set-up port (R38): what the host can do to the CORE between instructions. -/

namespace Sys2Proof.Machine

/-- The return codes of `run` (R130). -/
inductive RunCode where
  /-- CONTINUE: the balance is spent (R141). -/
  | cont
  /-- BREAK: the CORE is HALTED (R139, R140, R147). -/
  | brk
  deriving DecidableEq, Repr

/-- The code of a `run` that ends in this state (R130): BREAK when HALTED, else CONTINUE. A halt wins over an exhausted
budget (R303). -/
def runCode (s : State) : RunCode := if s.runState = .halted then .brk else .cont

/-- The loop of `run` (R130), at most `fuel` instructions long: every instruction is charged at least 2 or halts (R310), so
a fuel of the balance is never used up (log entry 16). -/
def runLoop : Nat → State → Host.Outcome (RunCode × State) Fault Refusal
  | 0, s => .next (runCode s, s)
  | fuel + 1, s =>
    if canDispatch s then
      match step s with
      | .next t => runLoop fuel t
      | .fault r => .fault r
      | .refused r => .refused r
    else .next (runCode s, s)

/-- The deposit of `run` (R130, R32): refused outside the range. -/
def deposit (n : Int) (s : State) : Host.Outcome State Fault Refusal :=
  if balanceOk (s.cyclesAvailable + n) then .next (setCycles (s.cyclesAvailable + n) s) else .refused .cycleRange

/-- `run(n)` (R130): on a HALTED CORE BREAK with nothing changed (R147); else the deposit and the loop. -/
def run (n : Int) (s : State) : Host.Outcome (RunCode × State) Fault Refusal :=
  if s.runState = .halted then .next (.brk, s)
  else
    match deposit n s with
    | .next t => runLoop t.cyclesAvailable.toNat t
    | .fault r => .fault r
    | .refused r => .refused r

/-- `set_instruction_pointer(pc)` (R331): PC and nothing else. -/
def setInstructionPointer (pc : Addr) (s : State) : State := setPC pc s

/-- `set_stack_pointer(sp)` (R332): the low byte and nothing else. -/
def setStackPointer (sp : Addr) (s : State) : State := setSP (lo8 sp) s

end Sys2Proof.Machine
end

