-- ==== Sys2Proof/Safety.lean ====
section
/-! DEFINITION. What counts as a safe state and a safe run, and the words the statements use for what an instruction leaves
alone. -/

namespace Sys2Proof.Machine

/-- The halt reason fits the run state: `none` exactly while RUNNING (R35). -/
def haltConsistent (s : State) : Bool := (s.runState == .halted) == (s.haltReason != .none)

/-- The events a halt reason has left behind: an unknown opcode has been reported once, nothing else is (R140). -/
def eventsOf : HaltReason → List Byte
  | .none => []
  | .brk => []
  | .illegal op => [op]

/-- The state invariant: memory in canonical form, the balance in its range (R32), the halt reason and the event output
fitting the run state (R34, R35, R140), and an ILLEGAL reason naming an unknown opcode only (R74). -/
def Inv (s : State) : Prop :=
  s.mem.wf = true ∧ balanceOk s.cyclesAvailable = true ∧ haltConsistent s = true ∧ s.events = eventsOf s.haltReason ∧
    (∀ op, s.haltReason = .illegal op → decodeOp op 0 0 = none)

/-- A run state that has not gone wrong (93 U9): no unknown opcode has halted the CORE. -/
def NoIllegalHalt (s : State) : Prop := ∀ op, s.haltReason ≠ .illegal op

/-- The balance can pay any instruction's charge, at most 7 (R144, R145, R240), without leaving its range (R32). -/
def HasRoom (s : State) : Prop := Config.cycleMin + 7 ≤ s.cyclesAvailable ∧ s.cyclesAvailable ≤ Config.cycleMax

/-- Every byte of memory reads as before. -/
def SameMem (s t : State) : Prop := ∀ a, busRead a t = busRead a s

/-- Every byte of memory outside the addresses listed reads as before. -/
def SameMemExcept (as : List Addr) (s t : State) : Prop := ∀ a, a ∉ as → busRead a t = busRead a s

/-- The run state, the halt reason and the diagnostic output are unchanged. -/
def SameControl (s t : State) : Prop :=
  t.runState = s.runState ∧ t.haltReason = s.haltReason ∧ t.events = s.events

/-- A, X and Y are unchanged. -/
def SameAXY (s t : State) : Prop := t.a = s.a ∧ t.x = s.x ∧ t.y = s.y

/-- The balance fell by `n` cycles (R138). -/
def Debited (n : Nat) (s t : State) : Prop := t.cyclesAvailable = s.cyclesAvailable - n

/-- PC advanced past an instruction of `n` bytes, mod 2^16 (R24, R136). -/
def Advanced (n : Nat) (s t : State) : Prop := t.pc = s.pc + BitVec.ofNat 16 n

end Sys2Proof.Machine
end

