-- ==== Sys2Proof/Certificates/Slice0/Obligations.lean ====
section
/-! DEFINITION. The statements for the provers, drawn from the numbered rules of spec/. The first part says in the spec's own
terms (operand forms as the rules list them, results as arithmetic, tables as printed) what the second part then states of
`exec`, `step` and `run`. -/

namespace Sys2Proof.Spec

open Sys2Proof.Machine

/-- One operand form of an instruction: its opcode, its "+" mark (R145) and the instruction. -/
structure FormRow where
  op : Byte
  plus : Bool
  instr : Instr

/-- The set_NZ law (R116; 95 section 2, property 5): N says bit 7, Z says zero, no other flag. -/
def nz (v : Byte) (f : Flags) : Flags := { f with n := (v &&& 0x80#8) != 0#8, z := v == 0#8 }

/-- Whether a reading instruction's operand crosses a page: never for IMM. -/
def operandCrosses : Operand → State → Bool
  | .imm _, _ => false
  | .mem m, s => pageCross m s

/-- The page-cross cycle of R138: only a "+" form pays it. -/
def crossCycle (plus cross : Bool) : Nat := if plus && cross then 1 else 0

/-- Whether an access is a write, and its address. -/
def accessKind : BusAccess → Bool × Addr
  | .read a => (false, a)
  | .write a _ => (true, a)

/-- The memory-operand accesses of R53 point 3, by class. -/
def classAccesses (c : InstrClass) (ea : Addr) : List (Bool × Addr) :=
  match c with
  | .read => [(false, ea)]
  | .write => [(true, ea)]
  | .rmw => [(false, ea), (true, ea)]
  | .other => []

/-- The accesses of R53 points 2 (IND) and 4: the target bytes of JMP (ind) and the stack accesses. -/
def otherAccesses (i : Instr) (s : State) : List (Bool × Addr) :=
  if i.mode = .ind then
    let ptr := word16 ((operandBytes i).getD 1 0) ((operandBytes i).getD 0 0)
    [(false, ptr), (false, ptr + 1)]
  else
    match i.mnemonic with
    | .jsr => [(true, stackAddr s.sp), (true, stackAddr (s.sp - 1))]
    | .rts => [(false, stackAddr (s.sp + 1)), (false, stackAddr (s.sp + 2))]
    | .rti => [(false, stackAddr (s.sp + 1)), (false, stackAddr (s.sp + 2)), (false, stackAddr (s.sp + 3))]
    | .brk => [(true, stackAddr s.sp), (true, stackAddr (s.sp - 1)), (true, stackAddr (s.sp - 2))]
    | .pha => [(true, stackAddr s.sp)]
    | .php => [(true, stackAddr s.sp)]
    | .pla => [(false, stackAddr (s.sp + 1))]
    | .plp => [(false, stackAddr (s.sp + 1))]
    | _ => []

/-- The access sequence of R53: the instruction's bytes, the pointer bytes, the memory operand, then the rest. -/
def accessSequence (i : Instr) (s : State) : List (Bool × Addr) :=
  (List.range i.length).map (fun k => (false, s.pc + BitVec.ofNat 16 k)) ++
    (match memOperand? i with
      | some m => (pointerReads m s).map (fun a => (false, a)) ++ classAccesses (instrClass i) (effAddr m s)
      | none => []) ++
    otherAccesses i s

/-- A 16-bit word read from page 0, the low byte at `p`, the high byte at `(p + 1) mod 256` (R55). -/
def zeroPageWord (p : Nat) (s : State) : Nat :=
  (busRead (BitVec.ofNat 16 p) s).toNat + 256 * (busRead (BitVec.ofNat 16 ((p + 1) % 256)) s).toNat

/-- What a *read* instruction does in every form: it completes, its effect on A, X, Y and the flags is `effect` of the
operand byte, and the rest is its frame. Here and below the cycles are those of R144 and R145, which the spec marks as
general knowledge, 92 D4 (log entry 15). -/
def ReadResult (form : Operand → Option FormRow) (effect : Byte → State → State → Prop) : Prop :=
  ∀ (o : Operand) (row : FormRow) (s : State), form o = some row → HasRoom s →
    ∃ t, exec row.instr s = .next t ∧ opcode row.instr = row.op ∧ effect (operandValue o s) s t ∧ t.sp = s.sp ∧
      Advanced (operandLength o) s t ∧ SameMem s t ∧ SameControl s t ∧
      Debited (baseCycles row.op + crossCycle row.plus (operandCrosses o s)) s t

/-- What a *write* instruction does in every form: the register is at the effective address, every other byte and every
register and flag is as before, EA is not read before the write (the access list of R53, 92 D12, log entry 14), and no
crossing is charged. -/
def StoreResult (form : MemOperand → Option FormRow) (src : State → Byte) : Prop :=
  ∀ (m : MemOperand) (row : FormRow) (s : State), form m = some row → HasRoom s → s.mem.wf = true →
    ∃ t, exec row.instr s = .next t ∧ opcode row.instr = row.op ∧ busRead (effAddr m s) t = src s ∧
      SameMemExcept [effAddr m s] s t ∧ SameAXY s t ∧ t.sp = s.sp ∧ t.flags = s.flags ∧ Advanced (memLength m) s t ∧
      SameControl s t ∧ t.bus.map accessKind = accessSequence row.instr s ∧ Debited (baseCycles row.op) s t

/-- What an *RMW* instruction does in every memory form: `rel` holds of the byte and flags before and after, every other
byte and every register is as before, and no crossing is charged. -/
def RmwResult (form : MemOperand → Option FormRow) (rel : Byte → Flags → Byte → Flags → Prop) : Prop :=
  ∀ (m : MemOperand) (row : FormRow) (s : State), form m = some row → HasRoom s → s.mem.wf = true →
    ∃ t, exec row.instr s = .next t ∧ opcode row.instr = row.op ∧
      rel (busRead (effAddr m s) s) s.flags (busRead (effAddr m s) t) t.flags ∧
      SameMemExcept [effAddr m s] s t ∧ SameAXY s t ∧ t.sp = s.sp ∧ Advanced (memLength m) s t ∧ SameControl s t ∧
      Debited (baseCycles row.op) s t

/-- What an instruction of one byte without a memory operand does: it completes, its effect on A, X, Y, SP and the flags
is `effect`, the rest is its frame. -/
def ImpliedResult (i : Instr) (op : Byte) (cycles : Nat) (effect : State → State → Prop) : Prop :=
  ∀ s : State, HasRoom s →
    ∃ t, exec i s = .next t ∧ opcode i = op ∧ effect s t ∧ Advanced 1 s t ∧ SameMem s t ∧ SameControl s t ∧
      Debited cycles s t

/-- The accumulator form of a shift or rotate: `rel` holds of A and the flags before and after. -/
def AccResult (i : Instr) (op : Byte) (rel : Byte → Flags → Byte → Flags → Prop) : Prop :=
  ImpliedResult i op 2 fun s t => rel s.a s.flags t.a t.flags ∧ t.x = s.x ∧ t.y = s.y ∧ t.sp = s.sp

/-- An instruction that pushes one byte (R119): the byte is at 0x0100 + SP, SP is one lower mod 256, nothing else
changes. -/
def PushResult (i : Instr) (op : Byte) (value : State → Byte) : Prop :=
  ∀ s : State, HasRoom s → s.mem.wf = true →
    ∃ t, exec i s = .next t ∧ opcode i = op ∧ busRead (stackAddr s.sp) t = value s ∧
      SameMemExcept [stackAddr s.sp] s t ∧ t.sp.toNat = (s.sp.toNat + 255) % 256 ∧ SameAXY s t ∧ t.flags = s.flags ∧
      Advanced 1 s t ∧ SameControl s t ∧ Debited 3 s t

/-- ADC8 (R180) as arithmetic on integers: `a + m + c` mod 256, the carry, the signed overflow by the XOR formula, N and Z
of the result; D, I and B unchanged. -/
def AdcEffect (m : Byte) (s t : State) : Prop :=
  let sum := s.a.toNat + m.toNat + (if s.flags.c then 1 else 0)
  t.a.toNat = sum % 256 ∧ t.x = s.x ∧ t.y = s.y ∧
    t.flags = nz t.a { s.flags with
      c := decide (sum > 255)
      v := ((s.a.toNat ^^^ sum) &&& (m.toNat ^^^ sum) &&& 0x80) != 0 }

/-- SBC (R182) as arithmetic on integers: `A - M - (1 - C)` mod 256, C says no borrow, V says the signed difference lies
outside -128 to 127. -/
def SbcEffect (m : Byte) (s t : State) : Prop :=
  let borrow : Int := if s.flags.c then 0 else 1
  let d : Int := s.a.toNat - m.toNat - borrow
  let sd : Int := s.a.toInt - m.toInt - borrow
  (t.a.toNat : Int) = d % 256 ∧ t.x = s.x ∧ t.y = s.y ∧
    t.flags = nz t.a { s.flags with c := decide (0 ≤ d), v := decide (sd < -128 ∨ 127 < sd) }

/-- Compare (R117): C says `r ≥ m` unsigned, Z says equal, N is bit 7 of the difference mod 256; V, I, D, B unchanged, and no
register changes. -/
def CompareEffect (r : State → Byte) (m : Byte) (s t : State) : Prop :=
  SameAXY s t ∧
    t.flags = { s.flags with
      c := decide (m.toNat ≤ (r s).toNat)
      z := r s == m
      n := decide (128 ≤ ((r s).toNat + 256 - m.toNat) % 256) }

/-- A load's effect on its own register and the flags (R160 to R162), the other two registers given as unchanged. -/
def LoadEffect (dest other1 other2 : State → Byte) (m : Byte) (s t : State) : Prop :=
  dest t = m ∧ other1 t = other1 s ∧ other2 t = other2 s ∧ t.flags = nz m s.flags

/-- A transfer's effect (R274 to R279): the source's byte in the destination, the others unchanged, set_NZ of the
destination. -/
def TransferEffect (src dest other1 other2 : State → Byte) (s t : State) : Prop :=
  LoadEffect dest other1 other2 (src s) s t ∧ t.sp = s.sp

/-- A flag instruction's effect (R280 to R286): the flags are `f` of the old ones, no register changes. -/
def FlagEffect (f : Flags → Flags) (s t : State) : Prop := t.flags = f s.flags ∧ SameAXY s t ∧ t.sp = s.sp

/-- ASL (R220): doubled mod 256, C from bit 7. -/
def AslRel (v : Byte) (f : Flags) (r : Byte) (g : Flags) : Prop :=
  r.toNat = (2 * v.toNat) % 256 ∧ g = nz r { f with c := decide (128 ≤ v.toNat) }

/-- LSR (R221): halved, C from bit 0, so N is 0. -/
def LsrRel (v : Byte) (f : Flags) (r : Byte) (g : Flags) : Prop :=
  r.toNat = v.toNat / 2 ∧ g = { f with c := decide (v.toNat % 2 = 1), n := false, z := decide (v.toNat < 2) }

/-- ROL (R222): doubled mod 256 plus the old C, C from bit 7. -/
def RolRel (v : Byte) (f : Flags) (r : Byte) (g : Flags) : Prop :=
  r.toNat = (2 * v.toNat) % 256 + (if f.c then 1 else 0) ∧ g = nz r { f with c := decide (128 ≤ v.toNat) }

/-- ROR (R223): halved plus 128 times the old C, C from bit 0. -/
def RorRel (v : Byte) (f : Flags) (r : Byte) (g : Flags) : Prop :=
  r.toNat = v.toNat / 2 + (if f.c then 128 else 0) ∧ g = nz r { f with c := decide (v.toNat % 2 = 1) }

/-- INC (R190) and the register increments: plus one mod 256. -/
def IncRel (v : Byte) (f : Flags) (r : Byte) (g : Flags) : Prop := r.toNat = (v.toNat + 1) % 256 ∧ g = nz r f

/-- DEC (R191) and the register decrements: minus one mod 256. -/
def DecRel (v : Byte) (f : Flags) (r : Byte) (g : Flags) : Prop := r.toNat = (v.toNat + 255) % 256 ∧ g = nz r f

/-- One branch: its opcode, the instruction of a displacement, its condition (R241 to R248). -/
structure BranchRow where
  op : Byte
  instr : Byte → Instr
  cond : Flags → Bool

/-- The eight branches with the conditions R241 to R248 give. -/
def branchRows : List BranchRow :=
  [⟨0x90, .bcc, fun f => f.c == false⟩, ⟨0xB0, .bcs, fun f => f.c == true⟩,
   ⟨0xF0, .beq, fun f => f.z == true⟩, ⟨0x30, .bmi, fun f => f.n == true⟩,
   ⟨0xD0, .bne, fun f => f.z == false⟩, ⟨0x10, .bpl, fun f => f.n == false⟩,
   ⟨0x50, .bvc, fun f => f.v == false⟩, ⟨0x70, .bvs, fun f => f.v == true⟩]

/-- The charge of a branch (R240, R148): 2 untaken, 3 taken on the page of the next instruction, 4 taken to another. -/
def branchCycles (taken : Bool) (next target : Addr) : Nat :=
  if taken then (if next.toNat / 256 = target.toNat / 256 then 3 else 4) else 2

/-- The state with the flags D, I and B at given values. -/
def withDIB (d i b : Bool) (s : State) : State := { s with flags := { s.flags with d := d, i := i, b := b } }

/-- An outcome with D, I and B of the next state cleared. -/
def forgetDIB : Host.Outcome State Fault Refusal → Host.Outcome State Fault Refusal
  | .next s => .next (withDIB false false false s)
  | .fault r => .fault r
  | .refused r => .refused r

/-- The writers of A that R21 lists (shifts and rotates in accumulator mode). -/
def writesA (i : Instr) : Bool :=
  [Mnemonic.lda, .txa, .tya, .pla, .adc, .sbc, .and, .ora, .eor].contains i.mnemonic || i.mode == .acc

/-- The writers of X that R22 lists. -/
def writesX (i : Instr) : Bool := [Mnemonic.ldx, .tax, .tsx, .inx, .dex].contains i.mnemonic

/-- The writers of Y that R23 lists. -/
def writesY (i : Instr) : Bool := [Mnemonic.ldy, .tay, .iny, .dey].contains i.mnemonic

/-- The writers of SP that R25 names: TXS and the stack instructions. -/
def writesSP (i : Instr) : Bool :=
  [Mnemonic.txs, .pha, .php, .pla, .plp, .jsr, .rts, .rti, .brk].contains i.mnemonic

/-- The `set_NZ` users that R26 lists. -/
def nzUsers : List Mnemonic :=
  [.lda, .ldx, .ldy, .tax, .tay, .tsx, .txa, .tya, .pla, .inx, .iny, .dex, .dey, .inc, .dec, .and, .ora, .eor, .adc,
   .sbc, .asl, .lsr, .rol, .ror]

/-- The writers of C (R26). -/
def writersC : List Mnemonic := [.adc, .sbc, .cmp, .cpx, .cpy, .asl, .lsr, .rol, .ror, .clc, .sec, .plp, .rti]

/-- The writers of Z and of N (R26). -/
def writersNZ : List Mnemonic := nzUsers ++ [.cmp, .cpx, .cpy, .bit, .plp, .rti]

/-- The writers of I, D, B and V (R26). -/
def writersI : List Mnemonic := [.cli, .sei, .plp, .rti]
def writersD : List Mnemonic := [.cld, .sed, .plp, .rti]
def writersB : List Mnemonic := [.brk, .plp, .rti]
def writersV : List Mnemonic := [.adc, .sbc, .bit, .clv, .plp, .rti]

/-- The operand forms of LDA: mode, opcode and "+" mark as R160 lists them. -/
def ldaForm : Operand → Option FormRow
  | .imm v => some ⟨0xA9, false, .ldaImm v⟩
  | .mem (.zp z) => some ⟨0xA5, false, .ldaZp z⟩
  | .mem (.zpx z) => some ⟨0xB5, false, .ldaZpx z⟩
  | .mem (.zpy _) => none
  | .mem (.abs w) => some ⟨0xAD, false, .ldaAbs w⟩
  | .mem (.abx w) => some ⟨0xBD, true, .ldaAbx w⟩
  | .mem (.aby w) => some ⟨0xB9, true, .ldaAby w⟩
  | .mem (.izx z) => some ⟨0xA1, false, .ldaIzx z⟩
  | .mem (.izy z) => some ⟨0xB1, true, .ldaIzy z⟩

/-- The operand forms of LDX: mode, opcode and "+" mark as R161 lists them. -/
def ldxForm : Operand → Option FormRow
  | .imm v => some ⟨0xA2, false, .ldxImm v⟩
  | .mem (.zp z) => some ⟨0xA6, false, .ldxZp z⟩
  | .mem (.zpx _) => none
  | .mem (.zpy z) => some ⟨0xB6, false, .ldxZpy z⟩
  | .mem (.abs w) => some ⟨0xAE, false, .ldxAbs w⟩
  | .mem (.abx _) => none
  | .mem (.aby w) => some ⟨0xBE, true, .ldxAby w⟩
  | .mem (.izx _) => none
  | .mem (.izy _) => none

/-- The operand forms of LDY: mode, opcode and "+" mark as R162 lists them. -/
def ldyForm : Operand → Option FormRow
  | .imm v => some ⟨0xA0, false, .ldyImm v⟩
  | .mem (.zp z) => some ⟨0xA4, false, .ldyZp z⟩
  | .mem (.zpx z) => some ⟨0xB4, false, .ldyZpx z⟩
  | .mem (.zpy _) => none
  | .mem (.abs w) => some ⟨0xAC, false, .ldyAbs w⟩
  | .mem (.abx w) => some ⟨0xBC, true, .ldyAbx w⟩
  | .mem (.aby _) => none
  | .mem (.izx _) => none
  | .mem (.izy _) => none

/-- The operand forms of ADC: mode, opcode and "+" mark as R181 lists them. -/
def adcForm : Operand → Option FormRow
  | .imm v => some ⟨0x69, false, .adcImm v⟩
  | .mem (.zp z) => some ⟨0x65, false, .adcZp z⟩
  | .mem (.zpx z) => some ⟨0x75, false, .adcZpx z⟩
  | .mem (.zpy _) => none
  | .mem (.abs w) => some ⟨0x6D, false, .adcAbs w⟩
  | .mem (.abx w) => some ⟨0x7D, true, .adcAbx w⟩
  | .mem (.aby w) => some ⟨0x79, true, .adcAby w⟩
  | .mem (.izx z) => some ⟨0x61, false, .adcIzx z⟩
  | .mem (.izy z) => some ⟨0x71, true, .adcIzy z⟩

/-- The operand forms of SBC: mode, opcode and "+" mark as R182 lists them. -/
def sbcForm : Operand → Option FormRow
  | .imm v => some ⟨0xE9, false, .sbcImm v⟩
  | .mem (.zp z) => some ⟨0xE5, false, .sbcZp z⟩
  | .mem (.zpx z) => some ⟨0xF5, false, .sbcZpx z⟩
  | .mem (.zpy _) => none
  | .mem (.abs w) => some ⟨0xED, false, .sbcAbs w⟩
  | .mem (.abx w) => some ⟨0xFD, true, .sbcAbx w⟩
  | .mem (.aby w) => some ⟨0xF9, true, .sbcAby w⟩
  | .mem (.izx z) => some ⟨0xE1, false, .sbcIzx z⟩
  | .mem (.izy z) => some ⟨0xF1, true, .sbcIzy z⟩

/-- The operand forms of AND: mode, opcode and "+" mark as R183 lists them. -/
def andForm : Operand → Option FormRow
  | .imm v => some ⟨0x29, false, .andImm v⟩
  | .mem (.zp z) => some ⟨0x25, false, .andZp z⟩
  | .mem (.zpx z) => some ⟨0x35, false, .andZpx z⟩
  | .mem (.zpy _) => none
  | .mem (.abs w) => some ⟨0x2D, false, .andAbs w⟩
  | .mem (.abx w) => some ⟨0x3D, true, .andAbx w⟩
  | .mem (.aby w) => some ⟨0x39, true, .andAby w⟩
  | .mem (.izx z) => some ⟨0x21, false, .andIzx z⟩
  | .mem (.izy z) => some ⟨0x31, true, .andIzy z⟩

/-- The operand forms of ORA: mode, opcode and "+" mark as R184 lists them. -/
def oraForm : Operand → Option FormRow
  | .imm v => some ⟨0x09, false, .oraImm v⟩
  | .mem (.zp z) => some ⟨0x05, false, .oraZp z⟩
  | .mem (.zpx z) => some ⟨0x15, false, .oraZpx z⟩
  | .mem (.zpy _) => none
  | .mem (.abs w) => some ⟨0x0D, false, .oraAbs w⟩
  | .mem (.abx w) => some ⟨0x1D, true, .oraAbx w⟩
  | .mem (.aby w) => some ⟨0x19, true, .oraAby w⟩
  | .mem (.izx z) => some ⟨0x01, false, .oraIzx z⟩
  | .mem (.izy z) => some ⟨0x11, true, .oraIzy z⟩

/-- The operand forms of EOR: mode, opcode and "+" mark as R185 lists them. -/
def eorForm : Operand → Option FormRow
  | .imm v => some ⟨0x49, false, .eorImm v⟩
  | .mem (.zp z) => some ⟨0x45, false, .eorZp z⟩
  | .mem (.zpx z) => some ⟨0x55, false, .eorZpx z⟩
  | .mem (.zpy _) => none
  | .mem (.abs w) => some ⟨0x4D, false, .eorAbs w⟩
  | .mem (.abx w) => some ⟨0x5D, true, .eorAbx w⟩
  | .mem (.aby w) => some ⟨0x59, true, .eorAby w⟩
  | .mem (.izx z) => some ⟨0x41, false, .eorIzx z⟩
  | .mem (.izy z) => some ⟨0x51, true, .eorIzy z⟩

/-- The operand forms of CMP: mode, opcode and "+" mark as R186 lists them. -/
def cmpForm : Operand → Option FormRow
  | .imm v => some ⟨0xC9, false, .cmpImm v⟩
  | .mem (.zp z) => some ⟨0xC5, false, .cmpZp z⟩
  | .mem (.zpx z) => some ⟨0xD5, false, .cmpZpx z⟩
  | .mem (.zpy _) => none
  | .mem (.abs w) => some ⟨0xCD, false, .cmpAbs w⟩
  | .mem (.abx w) => some ⟨0xDD, true, .cmpAbx w⟩
  | .mem (.aby w) => some ⟨0xD9, true, .cmpAby w⟩
  | .mem (.izx z) => some ⟨0xC1, false, .cmpIzx z⟩
  | .mem (.izy z) => some ⟨0xD1, true, .cmpIzy z⟩

/-- The operand forms of CPX: mode, opcode and "+" mark as R187 lists them. -/
def cpxForm : Operand → Option FormRow
  | .imm v => some ⟨0xE0, false, .cpxImm v⟩
  | .mem (.zp z) => some ⟨0xE4, false, .cpxZp z⟩
  | .mem (.zpx _) => none
  | .mem (.zpy _) => none
  | .mem (.abs w) => some ⟨0xEC, false, .cpxAbs w⟩
  | .mem (.abx _) => none
  | .mem (.aby _) => none
  | .mem (.izx _) => none
  | .mem (.izy _) => none

/-- The operand forms of CPY: mode, opcode and "+" mark as R188 lists them. -/
def cpyForm : Operand → Option FormRow
  | .imm v => some ⟨0xC0, false, .cpyImm v⟩
  | .mem (.zp z) => some ⟨0xC4, false, .cpyZp z⟩
  | .mem (.zpx _) => none
  | .mem (.zpy _) => none
  | .mem (.abs w) => some ⟨0xCC, false, .cpyAbs w⟩
  | .mem (.abx _) => none
  | .mem (.aby _) => none
  | .mem (.izx _) => none
  | .mem (.izy _) => none

/-- The operand forms of BIT: mode, opcode and "+" mark as R189 lists them. -/
def bitForm : Operand → Option FormRow
  | .imm _ => none
  | .mem (.zp z) => some ⟨0x24, false, .bitZp z⟩
  | .mem (.zpx _) => none
  | .mem (.zpy _) => none
  | .mem (.abs w) => some ⟨0x2C, false, .bitAbs w⟩
  | .mem (.abx _) => none
  | .mem (.aby _) => none
  | .mem (.izx _) => none
  | .mem (.izy _) => none

/-- The operand forms of STA: mode, opcode and "+" mark as R163 lists them. -/
def staForm : MemOperand → Option FormRow
  | .zp z => some ⟨0x85, false, .staZp z⟩
  | .zpx z => some ⟨0x95, false, .staZpx z⟩
  | .zpy _ => none
  | .abs w => some ⟨0x8D, false, .staAbs w⟩
  | .abx w => some ⟨0x9D, false, .staAbx w⟩
  | .aby w => some ⟨0x99, false, .staAby w⟩
  | .izx z => some ⟨0x81, false, .staIzx z⟩
  | .izy z => some ⟨0x91, false, .staIzy z⟩

/-- The operand forms of STX: mode, opcode and "+" mark as R164 lists them. -/
def stxForm : MemOperand → Option FormRow
  | .zp z => some ⟨0x86, false, .stxZp z⟩
  | .zpx _ => none
  | .zpy z => some ⟨0x96, false, .stxZpy z⟩
  | .abs w => some ⟨0x8E, false, .stxAbs w⟩
  | .abx _ => none
  | .aby _ => none
  | .izx _ => none
  | .izy _ => none

/-- The operand forms of STY: mode, opcode and "+" mark as R165 lists them. -/
def styForm : MemOperand → Option FormRow
  | .zp z => some ⟨0x84, false, .styZp z⟩
  | .zpx z => some ⟨0x94, false, .styZpx z⟩
  | .zpy _ => none
  | .abs w => some ⟨0x8C, false, .styAbs w⟩
  | .abx _ => none
  | .aby _ => none
  | .izx _ => none
  | .izy _ => none

/-- The operand forms of INC: mode, opcode and "+" mark as R190 lists them. -/
def incForm : MemOperand → Option FormRow
  | .zp z => some ⟨0xE6, false, .incZp z⟩
  | .zpx z => some ⟨0xF6, false, .incZpx z⟩
  | .zpy _ => none
  | .abs w => some ⟨0xEE, false, .incAbs w⟩
  | .abx w => some ⟨0xFE, false, .incAbx w⟩
  | .aby _ => none
  | .izx _ => none
  | .izy _ => none

/-- The operand forms of DEC: mode, opcode and "+" mark as R191 lists them. -/
def decForm : MemOperand → Option FormRow
  | .zp z => some ⟨0xC6, false, .decZp z⟩
  | .zpx z => some ⟨0xD6, false, .decZpx z⟩
  | .zpy _ => none
  | .abs w => some ⟨0xCE, false, .decAbs w⟩
  | .abx w => some ⟨0xDE, false, .decAbx w⟩
  | .aby _ => none
  | .izx _ => none
  | .izy _ => none

/-- The operand forms of ASL: mode, opcode and "+" mark as R220 lists them. -/
def aslForm : MemOperand → Option FormRow
  | .zp z => some ⟨0x06, false, .aslZp z⟩
  | .zpx z => some ⟨0x16, false, .aslZpx z⟩
  | .zpy _ => none
  | .abs w => some ⟨0x0E, false, .aslAbs w⟩
  | .abx w => some ⟨0x1E, false, .aslAbx w⟩
  | .aby _ => none
  | .izx _ => none
  | .izy _ => none

/-- The operand forms of LSR: mode, opcode and "+" mark as R221 lists them. -/
def lsrForm : MemOperand → Option FormRow
  | .zp z => some ⟨0x46, false, .lsrZp z⟩
  | .zpx z => some ⟨0x56, false, .lsrZpx z⟩
  | .zpy _ => none
  | .abs w => some ⟨0x4E, false, .lsrAbs w⟩
  | .abx w => some ⟨0x5E, false, .lsrAbx w⟩
  | .aby _ => none
  | .izx _ => none
  | .izy _ => none

/-- The operand forms of ROL: mode, opcode and "+" mark as R222 lists them. -/
def rolForm : MemOperand → Option FormRow
  | .zp z => some ⟨0x26, false, .rolZp z⟩
  | .zpx z => some ⟨0x36, false, .rolZpx z⟩
  | .zpy _ => none
  | .abs w => some ⟨0x2E, false, .rolAbs w⟩
  | .abx w => some ⟨0x3E, false, .rolAbx w⟩
  | .aby _ => none
  | .izx _ => none
  | .izy _ => none

/-- The operand forms of ROR: mode, opcode and "+" mark as R223 lists them. -/
def rorForm : MemOperand → Option FormRow
  | .zp z => some ⟨0x66, false, .rorZp z⟩
  | .zpx z => some ⟨0x76, false, .rorZpx z⟩
  | .zpy _ => none
  | .abs w => some ⟨0x6E, false, .rorAbs w⟩
  | .abx w => some ⟨0x7E, false, .rorAbx w⟩
  | .aby _ => none
  | .izx _ => none
  | .izy _ => none

/-- One cell of the table of R144: mode, opcode, base cycles and the plus mark. -/
structure CycleCell where
  mode : AddrMode
  op : Byte
  cycles : Nat
  plus : Bool

/-- One row of the table of R144. -/
structure CycleRow where
  mnemonic : Mnemonic
  cells : List CycleCell

/-- Rows of the printed table (R144), ADC to CLC. -/
def cycleRowsA : List CycleRow :=
  [⟨.adc, [⟨.imm, 0x69, 2, false⟩, ⟨.zp, 0x65, 3, false⟩, ⟨.zpx, 0x75, 4, false⟩, ⟨.abs, 0x6D, 4, false⟩,
      ⟨.abx, 0x7D, 4, true⟩, ⟨.aby, 0x79, 4, true⟩, ⟨.izx, 0x61, 6, false⟩, ⟨.izy, 0x71, 5, true⟩]⟩,
   ⟨.and, [⟨.imm, 0x29, 2, false⟩, ⟨.zp, 0x25, 3, false⟩, ⟨.zpx, 0x35, 4, false⟩, ⟨.abs, 0x2D, 4, false⟩,
      ⟨.abx, 0x3D, 4, true⟩, ⟨.aby, 0x39, 4, true⟩, ⟨.izx, 0x21, 6, false⟩, ⟨.izy, 0x31, 5, true⟩]⟩,
   ⟨.asl, [⟨.acc, 0x0A, 2, false⟩, ⟨.zp, 0x06, 5, false⟩, ⟨.zpx, 0x16, 6, false⟩, ⟨.abs, 0x0E, 6, false⟩,
      ⟨.abx, 0x1E, 7, false⟩]⟩,
   ⟨.bcc, [⟨.rel, 0x90, 2, false⟩]⟩,
   ⟨.bcs, [⟨.rel, 0xB0, 2, false⟩]⟩,
   ⟨.beq, [⟨.rel, 0xF0, 2, false⟩]⟩,
   ⟨.bit, [⟨.zp, 0x24, 3, false⟩, ⟨.abs, 0x2C, 4, false⟩]⟩,
   ⟨.bmi, [⟨.rel, 0x30, 2, false⟩]⟩,
   ⟨.bne, [⟨.rel, 0xD0, 2, false⟩]⟩,
   ⟨.bpl, [⟨.rel, 0x10, 2, false⟩]⟩,
   ⟨.brk, [⟨.imp, 0x00, 7, false⟩]⟩,
   ⟨.bvc, [⟨.rel, 0x50, 2, false⟩]⟩,
   ⟨.bvs, [⟨.rel, 0x70, 2, false⟩]⟩,
   ⟨.clc, [⟨.imp, 0x18, 2, false⟩]⟩]

/-- Rows of the printed table (R144), CLD to JMP. -/
def cycleRowsB : List CycleRow :=
  [⟨.cld, [⟨.imp, 0xD8, 2, false⟩]⟩,
   ⟨.cli, [⟨.imp, 0x58, 2, false⟩]⟩,
   ⟨.clv, [⟨.imp, 0xB8, 2, false⟩]⟩,
   ⟨.cmp, [⟨.imm, 0xC9, 2, false⟩, ⟨.zp, 0xC5, 3, false⟩, ⟨.zpx, 0xD5, 4, false⟩, ⟨.abs, 0xCD, 4, false⟩,
      ⟨.abx, 0xDD, 4, true⟩, ⟨.aby, 0xD9, 4, true⟩, ⟨.izx, 0xC1, 6, false⟩, ⟨.izy, 0xD1, 5, true⟩]⟩,
   ⟨.cpx, [⟨.imm, 0xE0, 2, false⟩, ⟨.zp, 0xE4, 3, false⟩, ⟨.abs, 0xEC, 4, false⟩]⟩,
   ⟨.cpy, [⟨.imm, 0xC0, 2, false⟩, ⟨.zp, 0xC4, 3, false⟩, ⟨.abs, 0xCC, 4, false⟩]⟩,
   ⟨.dec, [⟨.zp, 0xC6, 5, false⟩, ⟨.zpx, 0xD6, 6, false⟩, ⟨.abs, 0xCE, 6, false⟩, ⟨.abx, 0xDE, 7, false⟩]⟩,
   ⟨.dex, [⟨.imp, 0xCA, 2, false⟩]⟩,
   ⟨.dey, [⟨.imp, 0x88, 2, false⟩]⟩,
   ⟨.eor, [⟨.imm, 0x49, 2, false⟩, ⟨.zp, 0x45, 3, false⟩, ⟨.zpx, 0x55, 4, false⟩, ⟨.abs, 0x4D, 4, false⟩,
      ⟨.abx, 0x5D, 4, true⟩, ⟨.aby, 0x59, 4, true⟩, ⟨.izx, 0x41, 6, false⟩, ⟨.izy, 0x51, 5, true⟩]⟩,
   ⟨.inc, [⟨.zp, 0xE6, 5, false⟩, ⟨.zpx, 0xF6, 6, false⟩, ⟨.abs, 0xEE, 6, false⟩, ⟨.abx, 0xFE, 7, false⟩]⟩,
   ⟨.inx, [⟨.imp, 0xE8, 2, false⟩]⟩,
   ⟨.iny, [⟨.imp, 0xC8, 2, false⟩]⟩,
   ⟨.jmp, [⟨.abs, 0x4C, 3, false⟩, ⟨.ind, 0x6C, 5, false⟩]⟩]

/-- Rows of the printed table (R144), JSR to RTI. -/
def cycleRowsC : List CycleRow :=
  [⟨.jsr, [⟨.abs, 0x20, 6, false⟩]⟩,
   ⟨.lda, [⟨.imm, 0xA9, 2, false⟩, ⟨.zp, 0xA5, 3, false⟩, ⟨.zpx, 0xB5, 4, false⟩, ⟨.abs, 0xAD, 4, false⟩,
      ⟨.abx, 0xBD, 4, true⟩, ⟨.aby, 0xB9, 4, true⟩, ⟨.izx, 0xA1, 6, false⟩, ⟨.izy, 0xB1, 5, true⟩]⟩,
   ⟨.ldx, [⟨.imm, 0xA2, 2, false⟩, ⟨.zp, 0xA6, 3, false⟩, ⟨.zpy, 0xB6, 4, false⟩, ⟨.abs, 0xAE, 4, false⟩,
      ⟨.aby, 0xBE, 4, true⟩]⟩,
   ⟨.ldy, [⟨.imm, 0xA0, 2, false⟩, ⟨.zp, 0xA4, 3, false⟩, ⟨.zpx, 0xB4, 4, false⟩, ⟨.abs, 0xAC, 4, false⟩,
      ⟨.abx, 0xBC, 4, true⟩]⟩,
   ⟨.lsr, [⟨.acc, 0x4A, 2, false⟩, ⟨.zp, 0x46, 5, false⟩, ⟨.zpx, 0x56, 6, false⟩, ⟨.abs, 0x4E, 6, false⟩,
      ⟨.abx, 0x5E, 7, false⟩]⟩,
   ⟨.nop, [⟨.imp, 0xEA, 2, false⟩]⟩,
   ⟨.ora, [⟨.imm, 0x09, 2, false⟩, ⟨.zp, 0x05, 3, false⟩, ⟨.zpx, 0x15, 4, false⟩, ⟨.abs, 0x0D, 4, false⟩,
      ⟨.abx, 0x1D, 4, true⟩, ⟨.aby, 0x19, 4, true⟩, ⟨.izx, 0x01, 6, false⟩, ⟨.izy, 0x11, 5, true⟩]⟩,
   ⟨.pha, [⟨.imp, 0x48, 3, false⟩]⟩,
   ⟨.php, [⟨.imp, 0x08, 3, false⟩]⟩,
   ⟨.pla, [⟨.imp, 0x68, 4, false⟩]⟩,
   ⟨.plp, [⟨.imp, 0x28, 4, false⟩]⟩,
   ⟨.rol, [⟨.acc, 0x2A, 2, false⟩, ⟨.zp, 0x26, 5, false⟩, ⟨.zpx, 0x36, 6, false⟩, ⟨.abs, 0x2E, 6, false⟩,
      ⟨.abx, 0x3E, 7, false⟩]⟩,
   ⟨.ror, [⟨.acc, 0x6A, 2, false⟩, ⟨.zp, 0x66, 5, false⟩, ⟨.zpx, 0x76, 6, false⟩, ⟨.abs, 0x6E, 6, false⟩,
      ⟨.abx, 0x7E, 7, false⟩]⟩,
   ⟨.rti, [⟨.imp, 0x40, 6, false⟩]⟩]

/-- Rows of the printed table (R144), RTS to TYA. -/
def cycleRowsD : List CycleRow :=
  [⟨.rts, [⟨.imp, 0x60, 6, false⟩]⟩,
   ⟨.sbc, [⟨.imm, 0xE9, 2, false⟩, ⟨.zp, 0xE5, 3, false⟩, ⟨.zpx, 0xF5, 4, false⟩, ⟨.abs, 0xED, 4, false⟩,
      ⟨.abx, 0xFD, 4, true⟩, ⟨.aby, 0xF9, 4, true⟩, ⟨.izx, 0xE1, 6, false⟩, ⟨.izy, 0xF1, 5, true⟩]⟩,
   ⟨.sec, [⟨.imp, 0x38, 2, false⟩]⟩,
   ⟨.sed, [⟨.imp, 0xF8, 2, false⟩]⟩,
   ⟨.sei, [⟨.imp, 0x78, 2, false⟩]⟩,
   ⟨.sta, [⟨.zp, 0x85, 3, false⟩, ⟨.zpx, 0x95, 4, false⟩, ⟨.abs, 0x8D, 4, false⟩, ⟨.abx, 0x9D, 5, false⟩,
      ⟨.aby, 0x99, 5, false⟩, ⟨.izx, 0x81, 6, false⟩, ⟨.izy, 0x91, 6, false⟩]⟩,
   ⟨.stx, [⟨.zp, 0x86, 3, false⟩, ⟨.zpy, 0x96, 4, false⟩, ⟨.abs, 0x8E, 4, false⟩]⟩,
   ⟨.sty, [⟨.zp, 0x84, 3, false⟩, ⟨.zpx, 0x94, 4, false⟩, ⟨.abs, 0x8C, 4, false⟩]⟩,
   ⟨.tax, [⟨.imp, 0xAA, 2, false⟩]⟩,
   ⟨.tay, [⟨.imp, 0xA8, 2, false⟩]⟩,
   ⟨.tsx, [⟨.imp, 0xBA, 2, false⟩]⟩,
   ⟨.txa, [⟨.imp, 0x8A, 2, false⟩]⟩,
   ⟨.txs, [⟨.imp, 0x9A, 2, false⟩]⟩,
   ⟨.tya, [⟨.imp, 0x98, 2, false⟩]⟩]

/-- The cycle table of R144, row by row: the mnemonic, then each cell as mode, opcode, cycles and "+" mark. -/
def cycleTable : List CycleRow :=
  cycleRowsA ++ cycleRowsB ++ cycleRowsC ++ cycleRowsD

/-- The 105 unknown opcodes as R74 lists them. -/
def unknownOpcodes : List Byte :=
  [0x02, 0x03, 0x04, 0x07, 0x0B, 0x0C, 0x0F, 0x12, 0x13, 0x14, 0x17, 0x1A, 0x1B, 0x1C, 0x1F,
   0x22, 0x23, 0x27, 0x2B, 0x2F, 0x32, 0x33, 0x34, 0x37, 0x3A, 0x3B, 0x3C, 0x3F, 0x42, 0x43,
   0x44, 0x47, 0x4B, 0x4F, 0x52] ++
  [0x53, 0x54, 0x57, 0x5A, 0x5B, 0x5C, 0x5F, 0x62, 0x63, 0x64, 0x67, 0x6B, 0x6F, 0x72, 0x73,
   0x74, 0x77, 0x7A, 0x7B, 0x7C, 0x7F, 0x80, 0x82, 0x83, 0x87, 0x89, 0x8B, 0x8F, 0x92, 0x93,
   0x97, 0x9B, 0x9C, 0x9E, 0x9F] ++
  [0xA3, 0xA7, 0xAB, 0xAF, 0xB2, 0xB3, 0xB7, 0xBB, 0xBF, 0xC2, 0xC3, 0xC7, 0xCB, 0xCF, 0xD2,
   0xD3, 0xD4, 0xD7, 0xDA, 0xDB, 0xDC, 0xDF, 0xE2, 0xE3, 0xE7, 0xEB, 0xEF, 0xF2, 0xF3, 0xF4,
   0xF7, 0xFA, 0xFB, 0xFC, 0xFF]

end Sys2Proof.Spec

open Sys2Proof Sys2Proof.Machine Sys2Proof.Spec

/-! ### Encoding and decoding -/

/-- R71, R73 and the examples of 40_addressing.md and 42 to 46: words written out from the encodings decode to what they
stand for, in every family. -/
def Obligations.DocumentedWordsDecode : Prop :=
  decode [0xA9, 0xC0] = .ok (.ldaImm 0xC0) [] ∧ decode [0x8D, 0x00, 0x02] = .ok (.staAbs 0x0200) [] ∧
    decode [0x69, 0xC4, 0xEA] = .ok (.adcImm 0xC4) [0xEA] ∧ decode [0xB1, 0x86] = .ok (.ldaIzy 0x86) [] ∧
    decode [0x56, 0x10] = .ok (.lsrZpx 0x10) [] ∧ decode [0xD0, 0xF8] = .ok (.bne 0xF8) [] ∧
    decode [0x6C, 0x00, 0x03] = .ok (.jmpInd 0x0300) [] ∧ decode [0x20, 0x09, 0x00] = .ok (.jsr 0x0009) [] ∧
    decode [0x48] = .ok .pha [] ∧ decode [0xF8] = .ok .sed [] ∧ decode [0xB6, 0x10] = .ok (.ldxZpy 0x10) [] ∧
    decode [0x02, 0x00] = .unknownOpcode 0x02 ∧ decode [0xAD, 0x34] = .truncated

/-- R70, R71, R72: every well-formed instruction, at every operand value, decodes from its own bytes whatever follows
them. -/
def Obligations.DecodeOfEncode : Prop :=
  ∀ (i : Instr) (rest : List Byte), wellFormed i = true → decode (encode i ++ rest) = .ok i rest

/-- R70, R76: what the decoder answers is a well-formed instruction whose bytes are the opcode and as many of the two
bytes after it as its length says. -/
def Obligations.EncodeOfDecode : Prop :=
  ∀ (op lo hi : Byte) (i : Instr), decodeOp op lo hi = some i →
    wellFormed i = true ∧ encode i = [op, lo, hi].take i.length

/-- R74, R76: exactly the 105 bytes R74 lists are unknown, whatever bytes follow; without RTI (R252, 92 D1) 0x40 joins
them. -/
def Obligations.ExactlyTheListedBytesAreUnknown : Prop :=
  unknownOpcodes.length = 105 ∧
    ∀ op lo hi : Byte, (decodeOp op lo hi = none ↔ op ∈ unknownOpcodes) ∧
      (decodeOpFor false op lo hi = none ↔ op ∈ unknownOpcodes ∨ op = 0x40)

/-- R73, R144, R145: the decoder's mnemonic and mode, the base cycles and the page penalty agree with the printed table in
all its cells, and a byte outside the table is charged nothing. The spec marks the numbers as general knowledge, 92 D4
(log entry 15). -/
def Obligations.CycleTableAsPrinted : Prop :=
  (∀ row ∈ cycleTable, ∀ cell ∈ row.cells,
    (decodeOp cell.op 0 0).map (fun i => (i.mnemonic, i.mode)) = some (row.mnemonic, cell.mode) ∧
      baseCycles cell.op = cell.cycles ∧ pagePenalty cell.op = cell.plus) ∧
    ∀ op ∈ unknownOpcodes, baseCycles op = 0 ∧ pagePenalty op = false

/-! ### The step -/

/-- R134, R135, R137, R146: when the CORE is RUNNING on a positive balance and the bytes at PC decode to i, a step is exec of
i on that same state; exec does the fetch, the PC advance and the charge. -/
def Obligations.StepRunsDecodedInstruction : Prop :=
  ∀ (s : State) (i : Instr), s.runState = .running → 0 < s.cyclesAvailable →
    decodeOp (busRead s.pc s) (busRead (s.pc + 1) s) (busRead (s.pc + 2) s) = some i → step s = exec i s

/-- R131, R147 (92 D7; log entry 5): a HALTED CORE and a CORE whose balance is spent do nothing. -/
def Obligations.HaltedOrSpentCoreDoesNothing : Prop :=
  ∀ s : State, s.runState = .halted ∨ s.cyclesAvailable ≤ 0 → step s = .next s

/-- R140 (92 D6; log entry 14): an unknown opcode emits its event and halts; PC is past the opcode byte, that byte is the
only access, and nothing else changes, the balance included. -/
def Obligations.UnknownOpcodeHalts : Prop :=
  ∀ s : State, s.runState = .running → 0 < s.cyclesAvailable → busRead s.pc s ∈ unknownOpcodes →
    ∃ t, step s = .next t ∧ t.runState = .halted ∧ t.haltReason = .illegal (busRead s.pc s) ∧
      t.events = s.events ++ [busRead s.pc s] ∧ Advanced 1 s t ∧ t.bus = [.read s.pc] ∧ t.mem = s.mem ∧ SameAXY s t ∧
      t.sp = s.sp ∧ t.flags = s.flags ∧ t.cyclesAvailable = s.cyclesAvailable

/-! ### All instructions at once -/

/-- R138, R148, R32 (92 D11): every instruction completes exactly when its debit keeps the balance in range, and then the
balance has fallen by that debit; otherwise it is refused by name. -/
def Obligations.CompletesExactlyWhenDebitFits : Prop :=
  ∀ (i : Instr) (s : State),
    if balanceOk (s.cyclesAvailable - debit i s) then
      ∃ t, exec i s = .next t ∧ t.cyclesAvailable = s.cyclesAvailable - debit i s
    else exec i s = .refused .cycleRange

/-- R148, R240, R145: the debit is the base, plus one at a crossing for the 23 "+" opcodes, or 2, 3 or 4 for a branch; and it
is 2 to 7 for every instruction. -/
def Obligations.DebitLaw : Prop :=
  ∀ (i : Instr) (s : State),
    2 ≤ debit i s ∧ debit i s ≤ 7 ∧
      (i.mode = .rel → ∃ taken, branchCond? i.mnemonic s.flags = some taken ∧
        debit i s = branchCycles taken (nextAddr i s) (branchTarget (nextAddr i s) ((operandBytes i).getD 0 0))) ∧
      (i.mode ≠ .rel → debit i s = baseCycles (opcode i) + crossCycle (pagePenalty (opcode i)) (crossesPage i s)) ∧
      (pagePenalty (opcode i) = true → instrClass i = .read)

/-- R53, R58: an instruction changes no byte of memory outside the addresses it stores to. -/
def Obligations.MemoryChangesOnlyWhereStored : Prop :=
  ∀ (i : Instr) (s t : State), s.mem.wf = true → exec i s = .next t → SameMemExcept (storedAddrs i s) s t

/-- The model's choice (log entry 13, DEDUCED) of what `page_crossed` holds between instructions, where R33 gives its value
no meaning: it stays what R115 and R132 made it, so after any instruction it says whether an ABX, ABY or IZY address
computation of that instruction crossed a page, whatever it said before. -/
def Obligations.PageCrossedFollowsTheInstruction : Prop :=
  ∀ (i : Instr) (s t : State), exec i s = .next t →
    t.pageCrossed = crossesPage i s ∧ (t.pageCrossed = true → i.mode = .abx ∨ i.mode = .aby ∨ i.mode = .izy)

/-- R139, R34, R35: of the documented instructions BRK alone halts; every other leaves the run state, the halt reason and
the diagnostic output alone. -/
def Obligations.OnlyBrkHalts : Prop :=
  ∀ (i : Instr) (s t : State), exec i s = .next t →
    t.events = s.events ∧ (i = .brk → t.runState = .halted ∧ t.haltReason = .brk) ∧ (i ≠ .brk → SameControl s t)

/-- R21, R22, R23, R25: a register is changed only by an instruction the rules list as its writer. -/
def Obligations.RegistersChangeOnlyByTheirWriters : Prop :=
  ∀ (i : Instr) (s t : State), exec i s = .next t →
    (writesA i = false → t.a = s.a) ∧ (writesX i = false → t.x = s.x) ∧ (writesY i = false → t.y = s.y) ∧
      (writesSP i = false → t.sp = s.sp)

/-- R26: a flag is changed only by an instruction the table of R26 lists as its writer. -/
def Obligations.FlagsChangeOnlyByTheirWriters : Prop :=
  ∀ (i : Instr) (s t : State), exec i s = .next t →
    (i.mnemonic ∉ writersC → t.flags.c = s.flags.c) ∧ (i.mnemonic ∉ writersNZ → t.flags.z = s.flags.z) ∧
      (i.mnemonic ∉ writersI → t.flags.i = s.flags.i) ∧ (i.mnemonic ∉ writersD → t.flags.d = s.flags.d) ∧
      (i.mnemonic ∉ writersB → t.flags.b = s.flags.b) ∧ (i.mnemonic ∉ writersV → t.flags.v = s.flags.v) ∧
      (i.mnemonic ∉ writersNZ → t.flags.n = s.flags.n)

/-- R29, R30, R31: D, I and B influence nothing but themselves and the flag byte PHP and BRK push: with other values of D, I
and B every other instruction does the same. -/
def Obligations.DecimalInterruptBreakHaveNoEffect : Prop :=
  ∀ (i : Instr) (s : State) (d j b : Bool), i ≠ .php → i ≠ .brk →
    forgetDIB (exec i (withDIB d j b s)) = forgetDIB (exec i s)

/-- R53, R118 (92 D12; log entry 14): the bus accesses of every instruction, in kind, address and order: its bytes, the
pointer bytes, the memory operand by class, then target or stack bytes. No dummy access is made. -/
def Obligations.BusAccessSequence : Prop :=
  ∀ (i : Instr) (s t : State), exec i s = .next t → t.bus.map accessKind = accessSequence i s

/-! ### The invariant -/

/-- Every step keeps the invariant: memory in canonical form (R50), the balance in range (R32), halt reason and events
fitting the run state (R34, R35, R140). -/
def Obligations.StepKeepsInvariant : Prop := ∀ s t : State, Inv s → step s = .next t → Inv t

/-- The invariant holds of every freshly created CORE whose memory image is canonical, the reset state among them (R330,
R37). -/
def Obligations.CreationEstablishesInvariant : Prop :=
  (∀ (pc : Addr) (sp a x y : Byte) (mem : Memory), mem.wf = true → Inv (State.create pc sp a x y mem)) ∧
    Inv State.reset

/-- R330, R37 (92 D10, D11; log entries 1, 2, 3): creation gives the values R37 lists, for every PC, SP, draw of A, X, Y and
memory image; reset is the creation with SP 0xFF and, by the model's choice, PC, A, X, Y 0 and memory reading 0. -/
def Obligations.CreationValues : Prop :=
  (∀ (pc : Addr) (sp a x y : Byte) (mem : Memory),
    let s := State.create pc sp a x y mem
    s.pc = pc ∧ s.sp = sp ∧ s.a = a ∧ s.x = x ∧ s.y = y ∧ s.mem = mem ∧
      s.flags.c = false ∧ s.flags.z = false ∧ s.flags.i = false ∧ s.flags.d = false ∧ s.flags.b = false ∧
      s.flags.v = false ∧ s.flags.n = false ∧ s.cyclesAvailable = 0 ∧ s.pageCrossed = false ∧
      s.runState = .running ∧ s.haltReason = .none ∧ s.bus = [] ∧ s.events = []) ∧
    State.reset = State.create 0x0000 0xFF 0 0 0 [] ∧ ∀ a, busRead a State.reset = 0

/-! ### The control port and the set-up port -/

/-- R130, R141, R303: on a RUNNING CORE every `run` whose deposit is admitted returns, with BREAK and the CORE HALTED, or with
CONTINUE, the CORE RUNNING and the balance spent. -/
def Obligations.RunReturns : Prop :=
  ∀ (n : Int) (s : State), s.runState = .running → balanceOk (s.cyclesAvailable + n) = true →
    ∃ code t, run n s = .next (code, t) ∧
      ((code = .brk ∧ t.runState = .halted) ∨ (code = .cont ∧ t.runState = .running ∧ t.cyclesAvailable ≤ 0))

/-- R130, R131, R147, R32 (92 D7, D11): `run` on a HALTED CORE returns BREAK and changes nothing; a deposit outside the range
is refused; a deposit that leaves the balance at 0 or below is all that happens, and CONTINUE returns. -/
def Obligations.RunAtItsEdges : Prop :=
  ∀ (n : Int) (s : State),
    (s.runState = .halted → run n s = .next (.brk, s)) ∧
      (s.runState = .running → balanceOk (s.cyclesAvailable + n) = false → run n s = .refused .cycleRange) ∧
      (s.runState = .running → balanceOk (s.cyclesAvailable + n) = true → s.cyclesAvailable + n ≤ 0 →
        run n s = .next (.cont, { s with cyclesAvailable := s.cyclesAvailable + n }))

/-- R310, R143: `run(1 - cycles_available)` on a RUNNING CORE is exactly one step on a balance of 1. -/
def Obligations.RunSingleSteps : Prop :=
  ∀ s : State, s.runState = .running →
    ∃ t, step { s with cyclesAvailable := 1 } = .next t ∧
      run (1 - s.cyclesAvailable) s = .next (if t.runState = .halted then .brk else .cont, t)

/-- R130, R131, R142, R146: a `run` whose admitted deposit leaves a positive balance takes one step on the residue plus the
deposit and then does what `run(0)` does from there. With RunAtItsEdges this says what a run of any number of instructions
computes. -/
def Obligations.RunIsOneStepThenTheRest : Prop :=
  ∀ (n : Int) (s : State), s.runState = .running → balanceOk (s.cyclesAvailable + n) = true →
    0 < s.cyclesAvailable + n →
    ∃ t, step { s with cyclesAvailable := s.cyclesAvailable + n } = .next t ∧ run n s = run 0 t

/-- R331, R332 (92 D15): the set-up port writes PC, or SP with the low byte of its argument, and nothing else. -/
def Obligations.SetUpPortWritesOneRegister : Prop :=
  (∀ (pc : Addr) (s : State), setInstructionPointer pc s = { s with pc := pc }) ∧
    (∀ (w : Addr) (s : State), setStackPointer w s = { s with sp := BitVec.ofNat 8 (w.toNat % 256) }) ∧
    (setStackPointer 0x01FF State.reset).sp = 0xFF ∧ (setStackPointer 0x0280 State.reset).sp = 0x80

/-! ### The address generator, the stack and the flag byte -/

/-- R104, R105, R106: the zero-page forms; an index wraps inside page 0 and never crosses a page; LDX and STX alone use the
form indexed by Y. -/
def Obligations.ZeroPageAddressesWrap : Prop :=
  (∀ (z : Byte) (s : State),
    ((effAddr (.zp z) s).toNat = z.toNat ∧ pageCross (.zp z) s = false ∧ memLength (.zp z) = 2) ∧
      ((effAddr (.zpx z) s).toNat = (z.toNat + s.x.toNat) % 256 ∧ pageCross (.zpx z) s = false ∧
        memLength (.zpx z) = 2) ∧
      ((effAddr (.zpy z) s).toNat = (z.toNat + s.y.toNat) % 256 ∧ pageCross (.zpy z) s = false ∧
        memLength (.zpy z) = 2)) ∧
    ∀ i : Instr, i.mode = .zpy → i.mnemonic = .ldx ∨ i.mnemonic = .stx

/-- R108, R109: the indexed absolute forms wrap mod 2^16 and cross a page when the high byte of the address differs from the
base's. -/
def Obligations.AbsoluteIndexedAddresses : Prop :=
  ∀ (w : Addr) (s : State),
    ((effAddr (.abx w) s).toNat = (w.toNat + s.x.toNat) % 65536 ∧
      (pageCross (.abx w) s = true ↔ w.toNat / 256 ≠ (w.toNat + s.x.toNat) % 65536 / 256) ∧ memLength (.abx w) = 3) ∧
      (effAddr (.aby w) s).toNat = (w.toNat + s.y.toNat) % 65536 ∧
      (pageCross (.aby w) s = true ↔ w.toNat / 256 ≠ (w.toNat + s.y.toNat) % 65536 / 256) ∧ memLength (.aby w) = 3

/-- R110, R111, R55: the pointer of the indirect forms is two zero-page bytes, low first, the second address wrapping mod
256; IZY adds Y mod 2^16 and crosses on a high-byte change, IZX never crosses. -/
def Obligations.IndirectAddresses : Prop :=
  ∀ (z : Byte) (s : State),
    ((effAddr (.izx z) s).toNat = zeroPageWord ((z.toNat + s.x.toNat) % 256) s ∧ pageCross (.izx z) s = false ∧
      memLength (.izx z) = 2) ∧
      (effAddr (.izy z) s).toNat = (zeroPageWord z.toNat s + s.y.toNat) % 65536 ∧
      (pageCross (.izy z) s = true ↔
        zeroPageWord z.toNat s / 256 ≠ (zeroPageWord z.toNat s + s.y.toNat) % 65536 / 256) ∧
      memLength (.izy z) = 2

/-- R119: Push writes 0x0100 + SP and then decrements SP mod 256; Pull increments SP mod 256 and then reads
0x0100 + SP. Nothing else of the registers and memory changes; the stack never leaves page 1. -/
def Obligations.PushAndPull : Prop :=
  ∀ (v : Byte) (s : State), s.mem.wf = true →
    ((stackAddr s.sp).toNat = 256 + s.sp.toNat ∧ busRead (stackAddr s.sp) (push v s) = v ∧
      SameMemExcept [stackAddr s.sp] s (push v s) ∧ (push v s).sp.toNat = (s.sp.toNat + 255) % 256 ∧
      SameAXY s (push v s) ∧ (push v s).pc = s.pc ∧ (push v s).flags = s.flags) ∧
      ((pull s).2.sp.toNat = (s.sp.toNat + 1) % 256 ∧ (pull s).1 = busRead (stackAddr (pull s).2.sp) s ∧
        SameMem s (pull s).2 ∧ SameAXY s (pull s).2 ∧ (pull s).2.pc = s.pc ∧ (pull s).2.flags = s.flags)

/-- R27: the packed flag byte bit by bit; bit 5 is always 1 and bit 4 is the stored B. -/
def Obligations.PackedFlagByte : Prop :=
  ∀ f : Flags,
    (pack f).toNat =
      128 * f.n.toNat + 64 * f.v.toNat + 32 + 16 * f.b.toNat + 8 * f.d.toNat + 4 * f.i.toNat + 2 * f.z.toNat +
        f.c.toNat

/-- R28 (92 D19; log entry 14): unpacking restores every flag from its bit, so unpack undoes pack, and pack undoes unpack but
for bit 5, which it forces to 1. -/
def Obligations.UnpackUndoesPack : Prop :=
  (∀ f : Flags, unpack (pack f) = f) ∧ ∀ b : Byte, pack (unpack b) = b ||| 0x20

/-- R180, R182: the XOR formula of V says that the signed sum lies outside -128 to 127, for ADC and, on the complement of
the operand, for SBC (derived in the spec by a check of all inputs). -/
def Obligations.OverflowIsSignedOverflow : Prop :=
  ∀ (a m : Byte) (c : Bool),
    (adcOverflow a m c = true ↔ a.toInt + m.toInt + c.toNat < -128 ∨ 127 < a.toInt + m.toInt + c.toNat) ∧
      (adcOverflow a (m ^^^ 0xFF) c = true ↔
        a.toInt - m.toInt - (1 - c.toNat) < -128 ∨ 127 < a.toInt - m.toInt - (1 - c.toNat)) ∧
      (adcCarry a (m ^^^ 0xFF) c = true ↔ 0 ≤ (a.toNat : Int) - m.toNat - (1 - c.toNat))

/-! ### Loads and stores -/

/-- R160, R161, R162: LDA, LDX and LDY, every form; LDX indexes by Y, LDY by X. -/
def Obligations.LoadsCopyTheOperand : Prop :=
  ReadResult ldaForm (LoadEffect State.a State.x State.y) ∧ ReadResult ldxForm (LoadEffect State.x State.a State.y) ∧
    ReadResult ldyForm (LoadEffect State.y State.a State.x)

/-- R163, R164, R165, with the access list of R53 (92 D12; log entry 14): STA, STX and STY, every form; EA is not read
before the write, a crossing is not charged. -/
def Obligations.StoresWriteTheirRegister : Prop :=
  StoreResult staForm State.a ∧ StoreResult stxForm State.x ∧ StoreResult styForm State.y

/-! ### Arithmetic and logic -/

/-- R181: ADC, every form, whatever D is (R29). -/
def Obligations.AdcAddsWithCarry : Prop := ReadResult adcForm AdcEffect

/-- R182 (92 D14; log entry 14): SBC, every form, as the subtraction with borrow it equals. -/
def Obligations.SbcSubtractsWithBorrow : Prop := ReadResult sbcForm SbcEffect

/-- R183, R184, R185: AND, ORA and EOR, every form, bit by bit; C and V unchanged. The spec marks the meanings as general
knowledge (log entry 15). -/
def Obligations.LogicCombinesBits : Prop :=
  ReadResult andForm (fun m s t => (∀ k, t.a.getLsbD k = (s.a.getLsbD k && m.getLsbD k)) ∧ t.x = s.x ∧ t.y = s.y ∧
      t.flags = nz t.a s.flags) ∧
    ReadResult oraForm (fun m s t => (∀ k, t.a.getLsbD k = (s.a.getLsbD k || m.getLsbD k)) ∧ t.x = s.x ∧ t.y = s.y ∧
      t.flags = nz t.a s.flags) ∧
    ReadResult eorForm (fun m s t => (∀ k, t.a.getLsbD k = (s.a.getLsbD k ^^ m.getLsbD k)) ∧ t.x = s.x ∧ t.y = s.y ∧
      t.flags = nz t.a s.flags)

/-- R186, R187, R188, R117: CMP, CPX and CPY, every form; C, Z and N always, V never. -/
def Obligations.CompareSetsFlagsOnly : Prop :=
  ReadResult cmpForm (CompareEffect State.a) ∧ ReadResult cpxForm (CompareEffect State.x) ∧
    ReadResult cpyForm (CompareEffect State.y)

/-- R189: BIT, both forms; N and V come from the operand alone, A and C are unchanged. -/
def Obligations.BitTestsOperand : Prop :=
  ReadResult bitForm fun m s t => SameAXY s t ∧
    t.flags = { s.flags with
      n := decide (128 ≤ m.toNat), v := decide (64 ≤ m.toNat % 128), z := (s.a &&& m) == 0#8 }

/-- R190, R191: INC and DEC, every form; C and V unchanged, no charge for a crossing. The spec marks flags and wrap as
general knowledge (log entry 15); that EA is read once and written once is in BusAccessSequence. -/
def Obligations.IncDecMemory : Prop := RmwResult incForm IncRel ∧ RmwResult decForm DecRel

/-- R192, R193, R194, R195: INX, INY, DEX and DEY. -/
def Obligations.IncDecIndexRegisters : Prop :=
  ImpliedResult .inx 0xE8 2 (fun s t => IncRel s.x s.flags t.x t.flags ∧ t.a = s.a ∧ t.y = s.y ∧ t.sp = s.sp) ∧
    ImpliedResult .iny 0xC8 2 (fun s t => IncRel s.y s.flags t.y t.flags ∧ t.a = s.a ∧ t.x = s.x ∧ t.sp = s.sp) ∧
    ImpliedResult .dex 0xCA 2 (fun s t => DecRel s.x s.flags t.x t.flags ∧ t.a = s.a ∧ t.y = s.y ∧ t.sp = s.sp) ∧
    ImpliedResult .dey 0x88 2 (fun s t => DecRel s.y s.flags t.y t.flags ∧ t.a = s.a ∧ t.x = s.x ∧ t.sp = s.sp)

/-! ### Shifts and rotates -/

/-- R220, R221: ASL and LSR, accumulator and memory forms; a 0 enters (the spec marks that as general knowledge, log entry
15), the bit shifted out goes to C. -/
def Obligations.ShiftsMoveOneBit : Prop :=
  AccResult .aslAcc 0x0A AslRel ∧ RmwResult aslForm AslRel ∧ AccResult .lsrAcc 0x4A LsrRel ∧ RmwResult lsrForm LsrRel

/-- R222, R223: ROL and ROR, accumulator and memory forms; the old C enters (the spec marks that as general knowledge, log
entry 15), the bit shifted out goes to C. -/
def Obligations.RotatesGoThroughCarry : Prop :=
  AccResult .rolAcc 0x2A RolRel ∧ RmwResult rolForm RolRel ∧ AccResult .rorAcc 0x6A RorRel ∧ RmwResult rorForm RorRel

/-! ### Control transfer -/

/-- R240 to R248 (92 D9; log entry 14): each of the eight branches goes to `PC0 + 2 + disp` mod 2^16 when its condition
holds and to `PC0 + 2` when not, is charged 2, 3 or 4, and changes nothing else. -/
def Obligations.BranchesGoWhereTheySay : Prop :=
  ∀ row ∈ branchRows, ∀ (disp : Byte) (s : State), HasRoom s →
    let next := s.pc + 2
    let target := BitVec.ofInt 16 (next.toNat + disp.toInt)
    ∃ t, exec (row.instr disp) s = .next t ∧ opcode (row.instr disp) = row.op ∧
      t.pc = (if row.cond s.flags then target else next) ∧
      Debited (branchCycles (row.cond s.flags) next target) s t ∧ SameAXY s t ∧ t.sp = s.sp ∧ t.flags = s.flags ∧
      SameMem s t ∧ SameControl s t

/-- R249, R113 (92 D2; log entry 10): JMP abs goes to its operand, in 3 cycles; JMP (ind) to the word at the pointer, its
high byte at `(ptr + 1) mod 2^16`, in 5. Nothing else changes. -/
def Obligations.JmpGoesToTarget : Prop :=
  (∀ (w : Addr) (s : State), HasRoom s →
    ∃ t, exec (.jmpAbs w) s = .next t ∧ opcode (.jmpAbs w) = 0x4C ∧ t.pc = w ∧ Debited 3 s t ∧ SameAXY s t ∧
      t.sp = s.sp ∧ t.flags = s.flags ∧ SameMem s t ∧ SameControl s t) ∧
    ∀ (ptr : Addr) (s : State), HasRoom s →
      ∃ t, exec (.jmpInd ptr) s = .next t ∧ opcode (.jmpInd ptr) = 0x6C ∧
        t.pc.toNat = (busRead ptr s).toNat + 256 * (busRead (BitVec.ofNat 16 ((ptr.toNat + 1) % 65536)) s).toNat ∧
        Debited 5 s t ∧ SameAXY s t ∧ t.sp = s.sp ∧ t.flags = s.flags ∧ SameMem s t ∧ SameControl s t

/-- R250: JSR pushes `PC0 + 2`, high byte first, and goes to its operand, in 6 cycles. -/
def Obligations.JsrPushesReturnAddress : Prop :=
  ∀ (w : Addr) (s : State), HasRoom s → s.mem.wf = true →
    ∃ t, exec (.jsr w) s = .next t ∧ opcode (.jsr w) = 0x20 ∧ t.pc = w ∧
      (busRead (stackAddr s.sp) t).toNat = (s.pc + 2).toNat / 256 ∧
      (busRead (stackAddr (s.sp - 1)) t).toNat = (s.pc + 2).toNat % 256 ∧
      SameMemExcept [stackAddr s.sp, stackAddr (s.sp - 1)] s t ∧ t.sp = s.sp - 2 ∧ SameAXY s t ∧
      t.flags = s.flags ∧ SameControl s t ∧ Debited 6 s t

/-- R251: RTS pulls the low byte, then the high byte, and goes to that word plus one mod 2^16, in 6 cycles. -/
def Obligations.RtsReturnsPastPulledAddress : Prop :=
  ∀ s : State, HasRoom s →
    ∃ t, exec .rts s = .next t ∧ opcode .rts = 0x60 ∧
      t.pc.toNat = ((busRead (stackAddr (s.sp + 1)) s).toNat + 256 * (busRead (stackAddr (s.sp + 2)) s).toNat + 1) %
        65536 ∧
      t.sp = s.sp + 2 ∧ SameAXY s t ∧ t.flags = s.flags ∧ SameMem s t ∧ SameControl s t ∧ Debited 6 s t

/-- R252, R305 (92 D1, D19; log entries 11, 14): RTI unpacks the first pulled byte into the flags and goes to the word of
the next two, low byte first, with no plus one, in 6 cycles. -/
def Obligations.RtiRestoresFlagsAndPc : Prop :=
  ∀ s : State, HasRoom s →
    ∃ t, exec .rti s = .next t ∧ opcode .rti = 0x40 ∧ pack t.flags = busRead (stackAddr (s.sp + 1)) s ||| 0x20 ∧
      t.pc.toNat = (busRead (stackAddr (s.sp + 2)) s).toNat + 256 * (busRead (stackAddr (s.sp + 3)) s).toNat ∧
      t.sp = s.sp + 3 ∧ SameAXY s t ∧ SameMem s t ∧ SameControl s t ∧ Debited 6 s t

/-- R253, R304, R139 (92 D5, D8; log entry 14): BRK pushes `PC0 + 1`, high byte first, then the flags with the old B; sets B
alone; leaves PC at `PC0 + 1`; is charged 7 and halts with reason BRK. -/
def Obligations.BrkSavesStateAndHalts : Prop :=
  ∀ s : State, HasRoom s → s.mem.wf = true →
    ∃ t, exec .brk s = .next t ∧ opcode .brk = 0x00 ∧ Advanced 1 s t ∧
      (busRead (stackAddr s.sp) t).toNat = (s.pc + 1).toNat / 256 ∧
      (busRead (stackAddr (s.sp - 1)) t).toNat = (s.pc + 1).toNat % 256 ∧
      busRead (stackAddr (s.sp - 2)) t = pack s.flags ∧
      SameMemExcept [stackAddr s.sp, stackAddr (s.sp - 1), stackAddr (s.sp - 2)] s t ∧ t.sp = s.sp - 3 ∧
      t.flags = { s.flags with b := true } ∧ SameAXY s t ∧ t.runState = .halted ∧ t.haltReason = .brk ∧
      t.events = s.events ∧ Debited 7 s t

/-! ### Stack, transfers, flags, no operation -/

/-- R270, R272: PHA pushes A in 3 cycles; PLA pulls A and sets N and Z of it in 4; PHA then PLA, with any A in between,
restores A and leaves SP unchanged (95 section 2, property 7). -/
def Obligations.PhaPushesAndPlaPulls : Prop :=
  PushResult .pha 0x48 State.a ∧
    ImpliedResult .pla 0x68 4 (fun s t =>
      t.sp.toNat = (s.sp.toNat + 1) % 256 ∧ LoadEffect State.a State.x State.y (busRead (stackAddr t.sp) s) s t) ∧
    ∀ (s t : State) (v : Byte), s.mem.wf = true → exec .pha s = .next t → HasRoom t →
      ∃ u, exec .pla { t with a := v } = .next u ∧ u.a = s.a ∧ u.sp = s.sp

/-- R271, R273 (92 D19; log entry 14): PHP pushes the packed flags in 3 cycles; PLP pulls all seven flags in 4, bit 5
discarded; PHP then PLP, with any flags in between, restores all seven flags, B among them, and SP (95 section 2,
property 7). -/
def Obligations.PhpPushesAndPlpPulls : Prop :=
  PushResult .php 0x08 (fun s => pack s.flags) ∧
    ImpliedResult .plp 0x28 4 (fun s t =>
      t.sp.toNat = (s.sp.toNat + 1) % 256 ∧ pack t.flags = busRead (stackAddr t.sp) s ||| 0x20 ∧ SameAXY s t) ∧
    ∀ (s t : State) (f : Flags), s.mem.wf = true → exec .php s = .next t → HasRoom t →
      ∃ u, exec .plp { t with flags := f } = .next u ∧ u.flags = s.flags ∧ u.sp = s.sp

/-- R274, R275, R276, R277, R279: TAX, TAY, TSX, TXA and TYA copy and set N and Z of the destination. -/
def Obligations.TransfersCopyAndSetNZ : Prop :=
  ImpliedResult .tax 0xAA 2 (TransferEffect State.a State.x State.a State.y) ∧
    ImpliedResult .tay 0xA8 2 (TransferEffect State.a State.y State.a State.x) ∧
    ImpliedResult .tsx 0xBA 2 (TransferEffect State.sp State.x State.a State.y) ∧
    ImpliedResult .txa 0x8A 2 (TransferEffect State.x State.a State.x State.y) ∧
    ImpliedResult .tya 0x98 2 (TransferEffect State.y State.a State.x State.y)

/-- R278, R287: TXS copies X to SP and writes no flag; NOP does nothing but advance PC and charge 2. -/
def Obligations.TxsAndNopWriteNoFlag : Prop :=
  ImpliedResult .txs 0x9A 2 (fun s t => t.sp = s.x ∧ SameAXY s t ∧ t.flags = s.flags) ∧
    ImpliedResult .nop 0xEA 2 (fun s t => t.sp = s.sp ∧ SameAXY s t ∧ t.flags = s.flags)

/-- R280 to R286: each flag instruction writes exactly its flag. -/
def Obligations.FlagInstructionsWriteOneFlag : Prop :=
  ImpliedResult .clc 0x18 2 (FlagEffect fun f => { f with c := false }) ∧
    ImpliedResult .cld 0xD8 2 (FlagEffect fun f => { f with d := false }) ∧
    ImpliedResult .cli 0x58 2 (FlagEffect fun f => { f with i := false }) ∧
    ImpliedResult .clv 0xB8 2 (FlagEffect fun f => { f with v := false }) ∧
    ImpliedResult .sec 0x38 2 (FlagEffect fun f => { f with c := true }) ∧
    ImpliedResult .sed 0xF8 2 (FlagEffect fun f => { f with d := true }) ∧
    ImpliedResult .sei 0x78 2 (FlagEffect fun f => { f with i := true })

/-! ### The round trip through a subroutine (95 section 2, property 8) -/

/-- R250, R251: after JSR to any target, RTS from any state with SP and the two stack bytes as JSR left them returns to the
instruction after the JSR, `PC0 + 3` mod 2^16, with the SP from before. Whatever else the subroutine has changed (A, X, Y,
the flags, PC, the rest of memory, the balance) does not matter. -/
def Obligations.JsrRtsReturns : Prop :=
  ∀ (w : Addr) (s t r : State), s.mem.wf = true → exec (.jsr w) s = .next t → r.sp = t.sp →
    busRead (stackAddr (r.sp + 1)) r = busRead (stackAddr (r.sp + 1)) t →
    busRead (stackAddr (r.sp + 2)) r = busRead (stackAddr (r.sp + 2)) t → HasRoom r →
    ∃ u, exec .rts r = .next u ∧ u.pc = s.pc + 3 ∧ u.sp = s.sp
end

