-- ==== Sys2Proof/Laws/State.lean ====
section
/-! SUPPORT. One lemma per field per update: what each named update of State does to each field, true by rfl. No later proof
unfolds a record update. -/

namespace Sys2Proof.Machine

@[simp] theorem interruptHook_eq (s : State) : interruptHook s = s := rfl

@[simp] theorem setA_a (v : Byte) (s : State) : (setA v s).a = v := rfl
@[simp] theorem setA_x (v : Byte) (s : State) : (setA v s).x = s.x := rfl
@[simp] theorem setA_y (v : Byte) (s : State) : (setA v s).y = s.y := rfl
@[simp] theorem setA_sp (v : Byte) (s : State) : (setA v s).sp = s.sp := rfl
@[simp] theorem setA_pc (v : Byte) (s : State) : (setA v s).pc = s.pc := rfl
@[simp] theorem setA_flags (v : Byte) (s : State) : (setA v s).flags = s.flags := rfl
@[simp] theorem setA_cyclesAvailable (v : Byte) (s : State) : (setA v s).cyclesAvailable = s.cyclesAvailable := rfl
@[simp] theorem setA_pageCrossed (v : Byte) (s : State) : (setA v s).pageCrossed = s.pageCrossed := rfl
@[simp] theorem setA_runState (v : Byte) (s : State) : (setA v s).runState = s.runState := rfl
@[simp] theorem setA_haltReason (v : Byte) (s : State) : (setA v s).haltReason = s.haltReason := rfl
@[simp] theorem setA_mem (v : Byte) (s : State) : (setA v s).mem = s.mem := rfl
@[simp] theorem setA_bus (v : Byte) (s : State) : (setA v s).bus = s.bus := rfl
@[simp] theorem setA_events (v : Byte) (s : State) : (setA v s).events = s.events := rfl

@[simp] theorem setX_a (v : Byte) (s : State) : (setX v s).a = s.a := rfl
@[simp] theorem setX_x (v : Byte) (s : State) : (setX v s).x = v := rfl
@[simp] theorem setX_y (v : Byte) (s : State) : (setX v s).y = s.y := rfl
@[simp] theorem setX_sp (v : Byte) (s : State) : (setX v s).sp = s.sp := rfl
@[simp] theorem setX_pc (v : Byte) (s : State) : (setX v s).pc = s.pc := rfl
@[simp] theorem setX_flags (v : Byte) (s : State) : (setX v s).flags = s.flags := rfl
@[simp] theorem setX_cyclesAvailable (v : Byte) (s : State) : (setX v s).cyclesAvailable = s.cyclesAvailable := rfl
@[simp] theorem setX_pageCrossed (v : Byte) (s : State) : (setX v s).pageCrossed = s.pageCrossed := rfl
@[simp] theorem setX_runState (v : Byte) (s : State) : (setX v s).runState = s.runState := rfl
@[simp] theorem setX_haltReason (v : Byte) (s : State) : (setX v s).haltReason = s.haltReason := rfl
@[simp] theorem setX_mem (v : Byte) (s : State) : (setX v s).mem = s.mem := rfl
@[simp] theorem setX_bus (v : Byte) (s : State) : (setX v s).bus = s.bus := rfl
@[simp] theorem setX_events (v : Byte) (s : State) : (setX v s).events = s.events := rfl

@[simp] theorem setY_a (v : Byte) (s : State) : (setY v s).a = s.a := rfl
@[simp] theorem setY_x (v : Byte) (s : State) : (setY v s).x = s.x := rfl
@[simp] theorem setY_y (v : Byte) (s : State) : (setY v s).y = v := rfl
@[simp] theorem setY_sp (v : Byte) (s : State) : (setY v s).sp = s.sp := rfl
@[simp] theorem setY_pc (v : Byte) (s : State) : (setY v s).pc = s.pc := rfl
@[simp] theorem setY_flags (v : Byte) (s : State) : (setY v s).flags = s.flags := rfl
@[simp] theorem setY_cyclesAvailable (v : Byte) (s : State) : (setY v s).cyclesAvailable = s.cyclesAvailable := rfl
@[simp] theorem setY_pageCrossed (v : Byte) (s : State) : (setY v s).pageCrossed = s.pageCrossed := rfl
@[simp] theorem setY_runState (v : Byte) (s : State) : (setY v s).runState = s.runState := rfl
@[simp] theorem setY_haltReason (v : Byte) (s : State) : (setY v s).haltReason = s.haltReason := rfl
@[simp] theorem setY_mem (v : Byte) (s : State) : (setY v s).mem = s.mem := rfl
@[simp] theorem setY_bus (v : Byte) (s : State) : (setY v s).bus = s.bus := rfl
@[simp] theorem setY_events (v : Byte) (s : State) : (setY v s).events = s.events := rfl

@[simp] theorem setSP_a (v : Byte) (s : State) : (setSP v s).a = s.a := rfl
@[simp] theorem setSP_x (v : Byte) (s : State) : (setSP v s).x = s.x := rfl
@[simp] theorem setSP_y (v : Byte) (s : State) : (setSP v s).y = s.y := rfl
@[simp] theorem setSP_sp (v : Byte) (s : State) : (setSP v s).sp = v := rfl
@[simp] theorem setSP_pc (v : Byte) (s : State) : (setSP v s).pc = s.pc := rfl
@[simp] theorem setSP_flags (v : Byte) (s : State) : (setSP v s).flags = s.flags := rfl
@[simp] theorem setSP_cyclesAvailable (v : Byte) (s : State) : (setSP v s).cyclesAvailable = s.cyclesAvailable := rfl
@[simp] theorem setSP_pageCrossed (v : Byte) (s : State) : (setSP v s).pageCrossed = s.pageCrossed := rfl
@[simp] theorem setSP_runState (v : Byte) (s : State) : (setSP v s).runState = s.runState := rfl
@[simp] theorem setSP_haltReason (v : Byte) (s : State) : (setSP v s).haltReason = s.haltReason := rfl
@[simp] theorem setSP_mem (v : Byte) (s : State) : (setSP v s).mem = s.mem := rfl
@[simp] theorem setSP_bus (v : Byte) (s : State) : (setSP v s).bus = s.bus := rfl
@[simp] theorem setSP_events (v : Byte) (s : State) : (setSP v s).events = s.events := rfl

@[simp] theorem setPC_a (v : Addr) (s : State) : (setPC v s).a = s.a := rfl
@[simp] theorem setPC_x (v : Addr) (s : State) : (setPC v s).x = s.x := rfl
@[simp] theorem setPC_y (v : Addr) (s : State) : (setPC v s).y = s.y := rfl
@[simp] theorem setPC_sp (v : Addr) (s : State) : (setPC v s).sp = s.sp := rfl
@[simp] theorem setPC_pc (v : Addr) (s : State) : (setPC v s).pc = v := rfl
@[simp] theorem setPC_flags (v : Addr) (s : State) : (setPC v s).flags = s.flags := rfl
@[simp] theorem setPC_cyclesAvailable (v : Addr) (s : State) : (setPC v s).cyclesAvailable = s.cyclesAvailable := rfl
@[simp] theorem setPC_pageCrossed (v : Addr) (s : State) : (setPC v s).pageCrossed = s.pageCrossed := rfl
@[simp] theorem setPC_runState (v : Addr) (s : State) : (setPC v s).runState = s.runState := rfl
@[simp] theorem setPC_haltReason (v : Addr) (s : State) : (setPC v s).haltReason = s.haltReason := rfl
@[simp] theorem setPC_mem (v : Addr) (s : State) : (setPC v s).mem = s.mem := rfl
@[simp] theorem setPC_bus (v : Addr) (s : State) : (setPC v s).bus = s.bus := rfl
@[simp] theorem setPC_events (v : Addr) (s : State) : (setPC v s).events = s.events := rfl

@[simp] theorem setFlags_a (f : Flags) (s : State) : (setFlags f s).a = s.a := rfl
@[simp] theorem setFlags_x (f : Flags) (s : State) : (setFlags f s).x = s.x := rfl
@[simp] theorem setFlags_y (f : Flags) (s : State) : (setFlags f s).y = s.y := rfl
@[simp] theorem setFlags_sp (f : Flags) (s : State) : (setFlags f s).sp = s.sp := rfl
@[simp] theorem setFlags_pc (f : Flags) (s : State) : (setFlags f s).pc = s.pc := rfl
@[simp] theorem setFlags_flags (f : Flags) (s : State) : (setFlags f s).flags = f := rfl
@[simp] theorem setFlags_cyclesAvailable (f : Flags) (s : State) :
    (setFlags f s).cyclesAvailable = s.cyclesAvailable :=
  rfl
@[simp] theorem setFlags_pageCrossed (f : Flags) (s : State) : (setFlags f s).pageCrossed = s.pageCrossed := rfl
@[simp] theorem setFlags_runState (f : Flags) (s : State) : (setFlags f s).runState = s.runState := rfl
@[simp] theorem setFlags_haltReason (f : Flags) (s : State) : (setFlags f s).haltReason = s.haltReason := rfl
@[simp] theorem setFlags_mem (f : Flags) (s : State) : (setFlags f s).mem = s.mem := rfl
@[simp] theorem setFlags_bus (f : Flags) (s : State) : (setFlags f s).bus = s.bus := rfl
@[simp] theorem setFlags_events (f : Flags) (s : State) : (setFlags f s).events = s.events := rfl

@[simp] theorem setCycles_a (n : Int) (s : State) : (setCycles n s).a = s.a := rfl
@[simp] theorem setCycles_x (n : Int) (s : State) : (setCycles n s).x = s.x := rfl
@[simp] theorem setCycles_y (n : Int) (s : State) : (setCycles n s).y = s.y := rfl
@[simp] theorem setCycles_sp (n : Int) (s : State) : (setCycles n s).sp = s.sp := rfl
@[simp] theorem setCycles_pc (n : Int) (s : State) : (setCycles n s).pc = s.pc := rfl
@[simp] theorem setCycles_flags (n : Int) (s : State) : (setCycles n s).flags = s.flags := rfl
@[simp] theorem setCycles_cyclesAvailable (n : Int) (s : State) : (setCycles n s).cyclesAvailable = n := rfl
@[simp] theorem setCycles_pageCrossed (n : Int) (s : State) : (setCycles n s).pageCrossed = s.pageCrossed := rfl
@[simp] theorem setCycles_runState (n : Int) (s : State) : (setCycles n s).runState = s.runState := rfl
@[simp] theorem setCycles_haltReason (n : Int) (s : State) : (setCycles n s).haltReason = s.haltReason := rfl
@[simp] theorem setCycles_mem (n : Int) (s : State) : (setCycles n s).mem = s.mem := rfl
@[simp] theorem setCycles_bus (n : Int) (s : State) : (setCycles n s).bus = s.bus := rfl
@[simp] theorem setCycles_events (n : Int) (s : State) : (setCycles n s).events = s.events := rfl

@[simp] theorem flagNZ_a (v : Byte) (s : State) : (flagNZ v s).a = s.a := rfl
@[simp] theorem flagNZ_x (v : Byte) (s : State) : (flagNZ v s).x = s.x := rfl
@[simp] theorem flagNZ_y (v : Byte) (s : State) : (flagNZ v s).y = s.y := rfl
@[simp] theorem flagNZ_sp (v : Byte) (s : State) : (flagNZ v s).sp = s.sp := rfl
@[simp] theorem flagNZ_pc (v : Byte) (s : State) : (flagNZ v s).pc = s.pc := rfl
@[simp] theorem flagNZ_flags (v : Byte) (s : State) : (flagNZ v s).flags = setNZ v s.flags := rfl
@[simp] theorem flagNZ_cyclesAvailable (v : Byte) (s : State) :
    (flagNZ v s).cyclesAvailable = s.cyclesAvailable :=
  rfl
@[simp] theorem flagNZ_pageCrossed (v : Byte) (s : State) : (flagNZ v s).pageCrossed = s.pageCrossed := rfl
@[simp] theorem flagNZ_runState (v : Byte) (s : State) : (flagNZ v s).runState = s.runState := rfl
@[simp] theorem flagNZ_haltReason (v : Byte) (s : State) : (flagNZ v s).haltReason = s.haltReason := rfl
@[simp] theorem flagNZ_mem (v : Byte) (s : State) : (flagNZ v s).mem = s.mem := rfl
@[simp] theorem flagNZ_bus (v : Byte) (s : State) : (flagNZ v s).bus = s.bus := rfl
@[simp] theorem flagNZ_events (v : Byte) (s : State) : (flagNZ v s).events = s.events := rfl

@[simp] theorem logReads_a (as : List Addr) (s : State) : (logReads as s).a = s.a := rfl
@[simp] theorem logReads_x (as : List Addr) (s : State) : (logReads as s).x = s.x := rfl
@[simp] theorem logReads_y (as : List Addr) (s : State) : (logReads as s).y = s.y := rfl
@[simp] theorem logReads_sp (as : List Addr) (s : State) : (logReads as s).sp = s.sp := rfl
@[simp] theorem logReads_pc (as : List Addr) (s : State) : (logReads as s).pc = s.pc := rfl
@[simp] theorem logReads_flags (as : List Addr) (s : State) : (logReads as s).flags = s.flags := rfl
@[simp] theorem logReads_cyclesAvailable (as : List Addr) (s : State) :
    (logReads as s).cyclesAvailable = s.cyclesAvailable :=
  rfl
@[simp] theorem logReads_pageCrossed (as : List Addr) (s : State) : (logReads as s).pageCrossed = s.pageCrossed := rfl
@[simp] theorem logReads_runState (as : List Addr) (s : State) : (logReads as s).runState = s.runState := rfl
@[simp] theorem logReads_haltReason (as : List Addr) (s : State) : (logReads as s).haltReason = s.haltReason := rfl
@[simp] theorem logReads_mem (as : List Addr) (s : State) : (logReads as s).mem = s.mem := rfl
@[simp] theorem logReads_bus (as : List Addr) (s : State) :
    (logReads as s).bus = s.bus ++ as.map BusAccess.read :=
  rfl
@[simp] theorem logReads_events (as : List Addr) (s : State) : (logReads as s).events = s.events := rfl

@[simp] theorem busWrite_a (b : Addr) (v : Byte) (s : State) : (busWrite b v s).a = s.a := rfl
@[simp] theorem busWrite_x (b : Addr) (v : Byte) (s : State) : (busWrite b v s).x = s.x := rfl
@[simp] theorem busWrite_y (b : Addr) (v : Byte) (s : State) : (busWrite b v s).y = s.y := rfl
@[simp] theorem busWrite_sp (b : Addr) (v : Byte) (s : State) : (busWrite b v s).sp = s.sp := rfl
@[simp] theorem busWrite_pc (b : Addr) (v : Byte) (s : State) : (busWrite b v s).pc = s.pc := rfl
@[simp] theorem busWrite_flags (b : Addr) (v : Byte) (s : State) : (busWrite b v s).flags = s.flags := rfl
@[simp] theorem busWrite_cyclesAvailable (b : Addr) (v : Byte) (s : State) :
    (busWrite b v s).cyclesAvailable = s.cyclesAvailable :=
  rfl
@[simp] theorem busWrite_pageCrossed (b : Addr) (v : Byte) (s : State) :
    (busWrite b v s).pageCrossed = s.pageCrossed :=
  rfl
@[simp] theorem busWrite_runState (b : Addr) (v : Byte) (s : State) : (busWrite b v s).runState = s.runState := rfl
@[simp] theorem busWrite_haltReason (b : Addr) (v : Byte) (s : State) :
    (busWrite b v s).haltReason = s.haltReason :=
  rfl
@[simp] theorem busWrite_mem (b : Addr) (v : Byte) (s : State) : (busWrite b v s).mem = s.mem.write b v := rfl
@[simp] theorem busWrite_bus (b : Addr) (v : Byte) (s : State) :
    (busWrite b v s).bus = s.bus ++ [BusAccess.write b v] :=
  rfl
@[simp] theorem busWrite_events (b : Addr) (v : Byte) (s : State) : (busWrite b v s).events = s.events := rfl

@[simp] theorem enterHalted_a (r : HaltReason) (s : State) : (enterHalted r s).a = s.a := rfl
@[simp] theorem enterHalted_x (r : HaltReason) (s : State) : (enterHalted r s).x = s.x := rfl
@[simp] theorem enterHalted_y (r : HaltReason) (s : State) : (enterHalted r s).y = s.y := rfl
@[simp] theorem enterHalted_sp (r : HaltReason) (s : State) : (enterHalted r s).sp = s.sp := rfl
@[simp] theorem enterHalted_pc (r : HaltReason) (s : State) : (enterHalted r s).pc = s.pc := rfl
@[simp] theorem enterHalted_flags (r : HaltReason) (s : State) : (enterHalted r s).flags = s.flags := rfl
@[simp] theorem enterHalted_cyclesAvailable (r : HaltReason) (s : State) :
    (enterHalted r s).cyclesAvailable = s.cyclesAvailable :=
  rfl
@[simp] theorem enterHalted_pageCrossed (r : HaltReason) (s : State) :
    (enterHalted r s).pageCrossed = s.pageCrossed :=
  rfl
@[simp] theorem enterHalted_runState (r : HaltReason) (s : State) : (enterHalted r s).runState = .halted := rfl
@[simp] theorem enterHalted_haltReason (r : HaltReason) (s : State) : (enterHalted r s).haltReason = r := rfl
@[simp] theorem enterHalted_mem (r : HaltReason) (s : State) : (enterHalted r s).mem = s.mem := rfl
@[simp] theorem enterHalted_bus (r : HaltReason) (s : State) : (enterHalted r s).bus = s.bus := rfl
@[simp] theorem enterHalted_events (r : HaltReason) (s : State) : (enterHalted r s).events = s.events := rfl

@[simp] theorem resolve_a (m : MemOperand) (s : State) : (resolve m s).a = s.a := rfl
@[simp] theorem resolve_x (m : MemOperand) (s : State) : (resolve m s).x = s.x := rfl
@[simp] theorem resolve_y (m : MemOperand) (s : State) : (resolve m s).y = s.y := rfl
@[simp] theorem resolve_sp (m : MemOperand) (s : State) : (resolve m s).sp = s.sp := rfl
@[simp] theorem resolve_pc (m : MemOperand) (s : State) : (resolve m s).pc = s.pc := rfl
@[simp] theorem resolve_flags (m : MemOperand) (s : State) : (resolve m s).flags = s.flags := rfl
@[simp] theorem resolve_cyclesAvailable (m : MemOperand) (s : State) :
    (resolve m s).cyclesAvailable = s.cyclesAvailable :=
  rfl
@[simp] theorem resolve_pageCrossed (m : MemOperand) (s : State) :
    (resolve m s).pageCrossed = (s.pageCrossed || pageCross m s) :=
  rfl
@[simp] theorem resolve_runState (m : MemOperand) (s : State) : (resolve m s).runState = s.runState := rfl
@[simp] theorem resolve_haltReason (m : MemOperand) (s : State) : (resolve m s).haltReason = s.haltReason := rfl
@[simp] theorem resolve_mem (m : MemOperand) (s : State) : (resolve m s).mem = s.mem := rfl
@[simp] theorem resolve_bus (m : MemOperand) (s : State) :
    (resolve m s).bus = s.bus ++ (pointerReads m s).map BusAccess.read :=
  rfl
@[simp] theorem resolve_events (m : MemOperand) (s : State) : (resolve m s).events = s.events := rfl

@[simp] theorem push_a (v : Byte) (s : State) : (push v s).a = s.a := rfl
@[simp] theorem push_x (v : Byte) (s : State) : (push v s).x = s.x := rfl
@[simp] theorem push_y (v : Byte) (s : State) : (push v s).y = s.y := rfl
@[simp] theorem push_sp (v : Byte) (s : State) : (push v s).sp = s.sp - 1 := rfl
@[simp] theorem push_pc (v : Byte) (s : State) : (push v s).pc = s.pc := rfl
@[simp] theorem push_flags (v : Byte) (s : State) : (push v s).flags = s.flags := rfl
@[simp] theorem push_cyclesAvailable (v : Byte) (s : State) : (push v s).cyclesAvailable = s.cyclesAvailable := rfl
@[simp] theorem push_pageCrossed (v : Byte) (s : State) : (push v s).pageCrossed = s.pageCrossed := rfl
@[simp] theorem push_runState (v : Byte) (s : State) : (push v s).runState = s.runState := rfl
@[simp] theorem push_haltReason (v : Byte) (s : State) : (push v s).haltReason = s.haltReason := rfl
@[simp] theorem push_mem (v : Byte) (s : State) : (push v s).mem = s.mem.write (stackAddr s.sp) v := rfl
@[simp] theorem push_bus (v : Byte) (s : State) :
    (push v s).bus = s.bus ++ [BusAccess.write (stackAddr s.sp) v] :=
  rfl
@[simp] theorem push_events (v : Byte) (s : State) : (push v s).events = s.events := rfl

@[simp] theorem pushWord_a (w : Addr) (s : State) : (pushWord w s).a = s.a := rfl
@[simp] theorem pushWord_x (w : Addr) (s : State) : (pushWord w s).x = s.x := rfl
@[simp] theorem pushWord_y (w : Addr) (s : State) : (pushWord w s).y = s.y := rfl
@[simp] theorem pushWord_sp (w : Addr) (s : State) : (pushWord w s).sp = s.sp - 1 - 1 := rfl
@[simp] theorem pushWord_pc (w : Addr) (s : State) : (pushWord w s).pc = s.pc := rfl
@[simp] theorem pushWord_flags (w : Addr) (s : State) : (pushWord w s).flags = s.flags := rfl
@[simp] theorem pushWord_cyclesAvailable (w : Addr) (s : State) :
    (pushWord w s).cyclesAvailable = s.cyclesAvailable :=
  rfl
@[simp] theorem pushWord_pageCrossed (w : Addr) (s : State) : (pushWord w s).pageCrossed = s.pageCrossed := rfl
@[simp] theorem pushWord_runState (w : Addr) (s : State) : (pushWord w s).runState = s.runState := rfl
@[simp] theorem pushWord_haltReason (w : Addr) (s : State) : (pushWord w s).haltReason = s.haltReason := rfl
@[simp] theorem pushWord_mem (w : Addr) (s : State) :
    (pushWord w s).mem = (s.mem.write (stackAddr s.sp) (hi8 w)).write (stackAddr (s.sp - 1)) (lo8 w) :=
  rfl
@[simp] theorem pushWord_bus (w : Addr) (s : State) :
    (pushWord w s).bus = s.bus ++ [BusAccess.write (stackAddr s.sp) (hi8 w)] ++ [BusAccess.write (stackAddr (s.sp - 1)) (lo8 w)] :=
  rfl
@[simp] theorem pushWord_events (w : Addr) (s : State) : (pushWord w s).events = s.events := rfl

@[simp] theorem fetch_a (n : Nat) (s : State) : (fetch n s).a = s.a := rfl
@[simp] theorem fetch_x (n : Nat) (s : State) : (fetch n s).x = s.x := rfl
@[simp] theorem fetch_y (n : Nat) (s : State) : (fetch n s).y = s.y := rfl
@[simp] theorem fetch_sp (n : Nat) (s : State) : (fetch n s).sp = s.sp := rfl
@[simp] theorem fetch_pc (n : Nat) (s : State) : (fetch n s).pc = s.pc + BitVec.ofNat 16 n := rfl
@[simp] theorem fetch_flags (n : Nat) (s : State) : (fetch n s).flags = s.flags := rfl
@[simp] theorem fetch_cyclesAvailable (n : Nat) (s : State) : (fetch n s).cyclesAvailable = s.cyclesAvailable := rfl
@[simp] theorem fetch_pageCrossed (n : Nat) (s : State) : (fetch n s).pageCrossed = false := rfl
@[simp] theorem fetch_runState (n : Nat) (s : State) : (fetch n s).runState = s.runState := rfl
@[simp] theorem fetch_haltReason (n : Nat) (s : State) : (fetch n s).haltReason = s.haltReason := rfl
@[simp] theorem fetch_mem (n : Nat) (s : State) : (fetch n s).mem = s.mem := rfl
@[simp] theorem fetch_bus (n : Nat) (s : State) :
    (fetch n s).bus = (fetchAddrs s.pc n).map BusAccess.read :=
  by simp [fetch, logReads, setPC]
@[simp] theorem fetch_events (n : Nat) (s : State) : (fetch n s).events = s.events := rfl

@[simp] theorem pull_fst (s : State) : (pull s).1 = busRead (stackAddr (s.sp + 1)) s := rfl
@[simp] theorem pull_snd_a (s : State) : (pull s).2.a = s.a := rfl
@[simp] theorem pull_snd_x (s : State) : (pull s).2.x = s.x := rfl
@[simp] theorem pull_snd_y (s : State) : (pull s).2.y = s.y := rfl
@[simp] theorem pull_snd_sp (s : State) : (pull s).2.sp = s.sp + 1 := rfl
@[simp] theorem pull_snd_pc (s : State) : (pull s).2.pc = s.pc := rfl
@[simp] theorem pull_snd_flags (s : State) : (pull s).2.flags = s.flags := rfl
@[simp] theorem pull_snd_cyclesAvailable (s : State) : (pull s).2.cyclesAvailable = s.cyclesAvailable := rfl
@[simp] theorem pull_snd_pageCrossed (s : State) : (pull s).2.pageCrossed = s.pageCrossed := rfl
@[simp] theorem pull_snd_runState (s : State) : (pull s).2.runState = s.runState := rfl
@[simp] theorem pull_snd_haltReason (s : State) : (pull s).2.haltReason = s.haltReason := rfl
@[simp] theorem pull_snd_mem (s : State) : (pull s).2.mem = s.mem := rfl
@[simp] theorem pull_snd_bus (s : State) : (pull s).2.bus = s.bus ++ [BusAccess.read (stackAddr (s.sp + 1))] := rfl
@[simp] theorem pull_snd_events (s : State) : (pull s).2.events = s.events := rfl

/-- A read of memory sees the memory alone. -/
theorem busRead_eq (a : Addr) (s : State) : busRead a s = s.mem.read a := rfl

end Sys2Proof.Machine
end

