-- ==== Sys2Proof/Laws/Cycles.lean ====
section
/-! SUPPORT. What a charge can do (R13, R138, R32): it changes the balance and nothing else, or it is refused. -/

namespace Sys2Proof.Machine

theorem balanceOk_iff (n : Int) : balanceOk n = true ↔ Config.cycleMin ≤ n ∧ n ≤ Config.cycleMax := by
  simp [balanceOk]

/-- A charge that answers a next state has changed the balance alone, to an admitted value. -/
theorem charge_next {op : Byte} {e : Nat} {s t : State} (h : charge op e s = .next t) :
    balanceOk (s.cyclesAvailable - chargeOf op s.pageCrossed e) = true ∧
      t = setCycles (s.cyclesAvailable - chargeOf op s.pageCrossed e) s := by
  simp only [charge] at h
  split at h
  · rename_i hb
    exact ⟨hb, by simpa using h.symm⟩
  · cases h

/-- A charge that fits is made. -/
theorem charge_of_ok {op : Byte} {e : Nat} {s : State}
    (h : balanceOk (s.cyclesAvailable - chargeOf op s.pageCrossed e) = true) :
    charge op e s = .next (setCycles (s.cyclesAvailable - chargeOf op s.pageCrossed e) s) := by
  simp [charge, h]

/-- A charge that does not fit is refused. -/
theorem charge_of_not_ok {op : Byte} {e : Nat} {s : State}
    (h : balanceOk (s.cyclesAvailable - chargeOf op s.pageCrossed e) = false) :
    charge op e s = .refused .cycleRange := by
  simp [charge, h]

/-- With room for it, a charge of at most 7 fits. -/
theorem balanceOk_of_room {s : State} (h : HasRoom s) {n : Nat} (hn : n ≤ 7) :
    balanceOk (s.cyclesAvailable - n) = true := by
  obtain ⟨h1, h2⟩ := h
  rw [balanceOk_iff]
  simp only [Config.cycleMin, Config.cycleMax] at *
  omega

theorem baseCycles_le (op : Byte) : baseCycles op ≤ 7 := by
  revert op
  decide

/-- A penalised opcode has room for its crossing. -/
theorem baseCycles_le_of_penalty (op : Byte) : pagePenalty op = true → baseCycles op ≤ 5 := by
  revert op
  decide

/-- No charge outside a branch is over 7. -/
theorem chargeOf_le (op : Byte) (cross : Bool) : chargeOf op cross 0 ≤ 7 := by
  unfold chargeOf
  have h1 := baseCycles_le op
  have h2 := baseCycles_le_of_penalty op
  cases hp : pagePenalty op <;> cases cross <;> simp [hp] at h2 ⊢ <;> omega

end Sys2Proof.Machine
end

