-- ==== Sys2Proof/Laws/Decode.lean ====
section
/-! SUPPORT. The byte-order helpers as arithmetic (R10), and the lengths of encodings. -/

namespace Sys2Proof

theorem lo8_toNat (w : Addr) : (lo8 w).toNat = w.toNat % 256 := by
  simp [lo8]

theorem hi8_toNat (w : Addr) : (hi8 w).toNat = w.toNat / 256 := by
  have := w.isLt
  simp only [hi8, BitVec.extractLsb'_toNat, Nat.shiftRight_eq_div_pow]
  omega

theorem word16_toNat (h l : Byte) : (word16 h l).toNat = 256 * h.toNat + l.toNat := by
  have hh := h.isLt
  have hl := l.isLt
  have e := Nat.shiftLeft_add_eq_or_of_lt (i := 8) (b := l.toNat) (by omega) h.toNat
  simp only [word16, BitVec.toNat_or, BitVec.toNat_shiftLeft, BitVec.toNat_setWidth]
  rw [Nat.mod_eq_of_lt (a := h.toNat) (by omega), Nat.mod_eq_of_lt (a := l.toNat) (by omega),
    Nat.mod_eq_of_lt (a := h.toNat <<< 8) (by rw [Nat.shiftLeft_eq]; omega), ← e, Nat.shiftLeft_eq]
  omega

/-- A word is put together again from its two bytes. -/
theorem word16_hi8_lo8 (w : Addr) : word16 (hi8 w) (lo8 w) = w := by
  apply BitVec.eq_of_toNat_eq
  rw [word16_toNat, hi8_toNat, lo8_toNat]
  omega

theorem lo8_word16 (h l : Byte) : lo8 (word16 h l) = l := by
  apply BitVec.eq_of_toNat_eq
  have := l.isLt
  rw [lo8_toNat, word16_toNat]
  omega

theorem hi8_word16 (h l : Byte) : hi8 (word16 h l) = h := by
  apply BitVec.eq_of_toNat_eq
  have := l.isLt
  rw [hi8_toNat, word16_toNat]
  omega

/-- The operand bytes are as many as the mode has (R71). -/
theorem operandBytes_length (i : Instr) : (operandBytes i).length + 1 = i.length := by
  cases i <;> rfl

end Sys2Proof
end

