-- ==== Sys2Proof/Laws/Flags.lean ====
section
/-! SUPPORT. The small lemmas of the flag computations: which flags each writes. -/

namespace Sys2Proof.Machine

@[simp] theorem setNZ_n (v : Byte) (f : Flags) : (setNZ v f).n = v.getLsbD 7 := rfl
@[simp] theorem setNZ_z (v : Byte) (f : Flags) : (setNZ v f).z = (v == 0) := rfl
@[simp] theorem setNZ_v (v : Byte) (f : Flags) : (setNZ v f).v = f.v := rfl
@[simp] theorem setNZ_b (v : Byte) (f : Flags) : (setNZ v f).b = f.b := rfl
@[simp] theorem setNZ_d (v : Byte) (f : Flags) : (setNZ v f).d = f.d := rfl
@[simp] theorem setNZ_i (v : Byte) (f : Flags) : (setNZ v f).i = f.i := rfl
@[simp] theorem setNZ_c (v : Byte) (f : Flags) : (setNZ v f).c = f.c := rfl

@[simp] theorem compareFlags_v (r m : Byte) (f : Flags) : (compareFlags r m f).v = f.v := rfl
@[simp] theorem compareFlags_b (r m : Byte) (f : Flags) : (compareFlags r m f).b = f.b := rfl
@[simp] theorem compareFlags_d (r m : Byte) (f : Flags) : (compareFlags r m f).d = f.d := rfl
@[simp] theorem compareFlags_i (r m : Byte) (f : Flags) : (compareFlags r m f).i = f.i := rfl

@[simp] theorem adcFlags_b (a m : Byte) (f : Flags) : (adcFlags a m f).b = f.b := rfl
@[simp] theorem adcFlags_d (a m : Byte) (f : Flags) : (adcFlags a m f).d = f.d := rfl
@[simp] theorem adcFlags_i (a m : Byte) (f : Flags) : (adcFlags a m f).i = f.i := rfl
@[simp] theorem adcFlags_c (a m : Byte) (f : Flags) : (adcFlags a m f).c = adcCarry a m f.c := rfl
@[simp] theorem adcFlags_v (a m : Byte) (f : Flags) : (adcFlags a m f).v = adcOverflow a m f.c := rfl

@[simp] theorem bitFlags_c (a m : Byte) (f : Flags) : (bitFlags a m f).c = f.c := rfl
@[simp] theorem bitFlags_b (a m : Byte) (f : Flags) : (bitFlags a m f).b = f.b := rfl
@[simp] theorem bitFlags_d (a m : Byte) (f : Flags) : (bitFlags a m f).d = f.d := rfl
@[simp] theorem bitFlags_i (a m : Byte) (f : Flags) : (bitFlags a m f).i = f.i := rfl

/-- The result of ADC8 is the exact sum mod 256 (R180). -/
theorem adcResult_toNat (a m : Byte) (c : Bool) : (adcResult a m c).toNat = adcSum a m c % 256 := by
  simp [adcResult]

end Sys2Proof.Machine
end

