-- ==== Sys2Proof/Laws/Operands.lean ====
section
/-! SUPPORT. The address generator does not depend on the head of the instruction, and what reading an operand changes. -/

namespace Sys2Proof.Machine

@[simp] theorem busRead_fetch (a : Addr) (n : Nat) (s : State) : busRead a (fetch n s) = busRead a s := rfl

@[simp] theorem effAddr_fetch (m : MemOperand) (n : Nat) (s : State) : effAddr m (fetch n s) = effAddr m s := by
  cases m <;> rfl

@[simp] theorem pageCross_fetch (m : MemOperand) (n : Nat) (s : State) : pageCross m (fetch n s) = pageCross m s := by
  cases m <;> rfl

@[simp] theorem pointerReads_fetch (m : MemOperand) (n : Nat) (s : State) :
    pointerReads m (fetch n s) = pointerReads m s := by
  cases m <;> rfl

@[simp] theorem operandValue_fetch (o : Operand) (n : Nat) (s : State) :
    operandValue o (fetch n s) = operandValue o s := by
  cases o <;> simp [operandValue]

/-- Whether reading an operand crosses a page: never for IMM (R115). -/
def operandCross : Operand → State → Bool
  | .imm _, _ => false
  | .mem m, s => pageCross m s

@[simp] theorem operandCross_fetch (o : Operand) (n : Nat) (s : State) :
    operandCross o (fetch n s) = operandCross o s := by
  cases o <;> simp [operandCross]

/-- Reading an operand changes the access log and `page_crossed` alone. -/
theorem operandRead_eq (o : Operand) (s : State) :
    operandRead o s =
      { s with bus := (operandRead o s).bus, pageCrossed := s.pageCrossed || operandCross o s } := by
  cases o with
  | imm v => simp [operandRead, operandCross]
  | mem m => rfl

@[simp] theorem operandRead_a (o : Operand) (s : State) : (operandRead o s).a = s.a := by cases o <;> rfl
@[simp] theorem operandRead_x (o : Operand) (s : State) : (operandRead o s).x = s.x := by cases o <;> rfl
@[simp] theorem operandRead_y (o : Operand) (s : State) : (operandRead o s).y = s.y := by cases o <;> rfl
@[simp] theorem operandRead_sp (o : Operand) (s : State) : (operandRead o s).sp = s.sp := by cases o <;> rfl
@[simp] theorem operandRead_pc (o : Operand) (s : State) : (operandRead o s).pc = s.pc := by cases o <;> rfl
@[simp] theorem operandRead_flags (o : Operand) (s : State) : (operandRead o s).flags = s.flags := by cases o <;> rfl
@[simp] theorem operandRead_mem (o : Operand) (s : State) : (operandRead o s).mem = s.mem := by cases o <;> rfl
@[simp] theorem operandRead_cyclesAvailable (o : Operand) (s : State) :
    (operandRead o s).cyclesAvailable = s.cyclesAvailable := by cases o <;> rfl
@[simp] theorem operandRead_runState (o : Operand) (s : State) : (operandRead o s).runState = s.runState := by
  cases o <;> rfl
@[simp] theorem operandRead_haltReason (o : Operand) (s : State) : (operandRead o s).haltReason = s.haltReason := by
  cases o <;> rfl
@[simp] theorem operandRead_events (o : Operand) (s : State) : (operandRead o s).events = s.events := by
  cases o <;> rfl
@[simp] theorem operandRead_pageCrossed (o : Operand) (s : State) :
    (operandRead o s).pageCrossed = (s.pageCrossed || operandCross o s) := by
  cases o <;> simp [operandRead, operandCross]

end Sys2Proof.Machine
end

