-- ==== Sys2Proof/Laws/Shapes.lean ====
section
/-! SUPPORT. One lemma per shape of instruction: the next state it answers, and that it answers one when there is room. -/

namespace Sys2Proof.Machine

/-- An implied instruction that answers a next state has fetched one byte, acted, and been charged. -/
theorem implied_next {op : Byte} {act : State → State} {s t : State} (h : implied op act s = .next t) :
    let u := act (fetch 1 s)
    balanceOk (u.cyclesAvailable - chargeOf op u.pageCrossed 0) = true ∧
      t = setCycles (u.cyclesAvailable - chargeOf op u.pageCrossed 0) u :=
  charge_next h

/-- An implied instruction whose effect leaves the balance alone completes when there is room. -/
theorem implied_of_room {op : Byte} {act : State → State} {s : State} (h : HasRoom s)
    (hc : (act (fetch 1 s)).cyclesAvailable = s.cyclesAvailable) :
    implied op act s =
      .next (setCycles (s.cyclesAvailable - chargeOf op (act (fetch 1 s)).pageCrossed 0) (act (fetch 1 s))) := by
  unfold implied
  rw [charge_of_ok (by rw [hc]; exact balanceOk_of_room h (chargeOf_le _ _)), hc]

/-- A reading instruction that answers a next state has read its operand, acted on it, and been charged. -/
theorem readInstr_next {op : Byte} {act : Byte → State → State} {o : Operand} {s t : State}
    (h : readInstr op act o s = .next t) :
    let u := act (operandValue o s) (operandRead o (fetch (operandLength o) s))
    balanceOk (u.cyclesAvailable - chargeOf op u.pageCrossed 0) = true ∧
      t = setCycles (u.cyclesAvailable - chargeOf op u.pageCrossed 0) u := by
  have := charge_next h
  simpa using this

/-- A reading instruction whose effect leaves the balance and `page_crossed` alone completes when there is room, and pays
for a crossing if its opcode is penalised. -/
theorem readInstr_of_room {op : Byte} {act : Byte → State → State} {o : Operand} {s : State} (h : HasRoom s)
    (hc : ∀ m u, (act m u).cyclesAvailable = u.cyclesAvailable) (hp : ∀ m u, (act m u).pageCrossed = u.pageCrossed) :
    readInstr op act o s =
      .next (setCycles (s.cyclesAvailable - chargeOf op (operandCross o s) 0)
        (act (operandValue o s) (operandRead o (fetch (operandLength o) s)))) := by
  unfold readInstr
  simp only [operandValue_fetch]
  have e : (act (operandValue o s) (operandRead o (fetch (operandLength o) s))).cyclesAvailable = s.cyclesAvailable := by
    simp [hc]
  have f : (act (operandValue o s) (operandRead o (fetch (operandLength o) s))).pageCrossed = operandCross o s := by
    simp [hp]
  rw [charge_of_ok (by rw [e, f]; exact balanceOk_of_room h (chargeOf_le _ _)), e, f]

/-- The state a storing instruction leaves but for its charge. -/
def storeEffect (src : State → Byte) (m : MemOperand) (s : State) : State :=
  let u := fetch (memLength m) s
  busWrite (effAddr m s) (src u) (resolve m u)

/-- A storing instruction completes when there is room. -/
theorem storeInstr_of_room {op : Byte} {src : State → Byte} {m : MemOperand} {s : State} (h : HasRoom s) :
    storeInstr op src m s =
      .next (setCycles (s.cyclesAvailable - chargeOf op (pageCross m s) 0) (storeEffect src m s)) := by
  unfold storeInstr storeEffect
  simp only [effAddr_fetch]
  rw [charge_of_ok (by simpa using balanceOk_of_room h (chargeOf_le _ _))]
  simp

/-- A storing instruction that answers a next state has stored and been charged. -/
theorem storeInstr_next {op : Byte} {src : State → Byte} {m : MemOperand} {s t : State}
    (h : storeInstr op src m s = .next t) :
    t = setCycles (s.cyclesAvailable - chargeOf op (pageCross m s) 0) (storeEffect src m s) := by
  have := (charge_next h).2
  simpa [storeEffect] using this

/-- The state a read-modify-write instruction leaves but for its charge. -/
def rmwEffect (f : Byte → Flags → Byte × Flags) (m : MemOperand) (s : State) : State :=
  let u := fetch (memLength m) s
  let r := f (busRead (effAddr m s) s) s.flags
  busWrite (effAddr m s) r.1 (setFlags r.2 (logReads [effAddr m s] (resolve m u)))

/-- A read-modify-write instruction completes when there is room. -/
theorem rmwInstr_of_room {op : Byte} {f : Byte → Flags → Byte × Flags} {m : MemOperand} {s : State} (h : HasRoom s) :
    rmwInstr op f m s =
      .next (setCycles (s.cyclesAvailable - chargeOf op (pageCross m s) 0) (rmwEffect f m s)) := by
  unfold rmwInstr rmwEffect
  simp only [effAddr_fetch, busRead_fetch, fetch_flags]
  rw [charge_of_ok (by simpa using balanceOk_of_room h (chargeOf_le _ _))]
  simp

/-- A read-modify-write instruction that answers a next state has done both and been charged. -/
theorem rmwInstr_next {op : Byte} {f : Byte → Flags → Byte × Flags} {m : MemOperand} {s t : State}
    (h : rmwInstr op f m s = .next t) :
    t = setCycles (s.cyclesAvailable - chargeOf op (pageCross m s) 0) (rmwEffect f m s) := by
  have := (charge_next h).2
  simpa [rmwEffect] using this

/-- The state an accumulator form leaves but for its charge. -/
def accEffect (f : Byte → Flags → Byte × Flags) (s : State) : State :=
  let r := f s.a s.flags
  setFlags r.2 (setA r.1 (fetch 1 s))

/-- An accumulator form completes when there is room. -/
theorem accInstr_of_room {op : Byte} {f : Byte → Flags → Byte × Flags} {s : State} (h : HasRoom s) :
    accInstr op f s = .next (setCycles (s.cyclesAvailable - chargeOf op false 0) (accEffect f s)) := by
  unfold accInstr accEffect
  simp only [fetch_a, fetch_flags]
  rw [charge_of_ok (by simpa using balanceOk_of_room h (chargeOf_le _ _))]
  simp

/-- An accumulator form that answers a next state has acted and been charged. -/
theorem accInstr_next {op : Byte} {f : Byte → Flags → Byte × Flags} {s t : State} (h : accInstr op f s = .next t) :
    t = setCycles (s.cyclesAvailable - chargeOf op false 0) (accEffect f s) := by
  have := (charge_next h).2
  simpa [accEffect] using this

/-- A branch that answers a next state has moved PC, past itself or to its target, and been charged. -/
theorem branch_next {op : Byte} {cond : Flags → Bool} {disp : Byte} {s t : State} (h : branch op cond disp s = .next t) :
    let next := s.pc + 2
    let target := branchTarget next disp
    t = if cond s.flags then
        setCycles (s.cyclesAvailable - chargeOf op false (if crossed next target then 2 else 1)) (setPC target (fetch 2 s))
      else setCycles (s.cyclesAvailable - chargeOf op false 0) (fetch 2 s) := by
  unfold branch at h
  by_cases hc : cond s.flags = true
  · simp only [fetch_flags, hc, if_true] at h ⊢
    exact (charge_next h).2
  · simp only [fetch_flags, hc] at h ⊢
    exact (charge_next h).2

end Sys2Proof.Machine
end

