-- ==== Sys2Proof/Laws/Instr.lean ====
section
/-! SUPPORT. What exec does, said once over all instructions: every instruction is an effect that leaves the balance alone,
then one charge. The memory operand of every instruction, read off its constructor. -/

namespace Sys2Proof.Machine

/-- The memory operand a mode makes of the two bytes of a word. -/
theorem memOperandOf_word (mode : AddrMode) (w : Addr) :
    memOperandOf mode (lo8 w) (hi8 w) =
      match mode with
      | .imp => none
      | .acc => none
      | .imm => none
      | .ind => none
      | .rel => none
      | .zp => some (.zp (lo8 w))
      | .zpx => some (.zpx (lo8 w))
      | .zpy => some (.zpy (lo8 w))
      | .izx => some (.izx (lo8 w))
      | .izy => some (.izy (lo8 w))
      | .abs => some (.abs w)
      | .abx => some (.abx w)
      | .aby => some (.aby w) := by
  cases mode <;> simp [memOperandOf, word16_hi8_lo8]

@[simp] theorem memOperand?_oraIzx (z : Byte) : memOperand? (.oraIzx z) = some (.izx z) := rfl
@[simp] theorem memOperand?_oraZp (z : Byte) : memOperand? (.oraZp z) = some (.zp z) := rfl
@[simp] theorem memOperand?_aslZp (z : Byte) : memOperand? (.aslZp z) = some (.zp z) := rfl
@[simp] theorem memOperand?_oraAbs (w : Addr) : memOperand? (.oraAbs w) = some (.abs w) := memOperandOf_word .abs w
@[simp] theorem memOperand?_aslAbs (w : Addr) : memOperand? (.aslAbs w) = some (.abs w) := memOperandOf_word .abs w
@[simp] theorem memOperand?_oraIzy (z : Byte) : memOperand? (.oraIzy z) = some (.izy z) := rfl
@[simp] theorem memOperand?_oraZpx (z : Byte) : memOperand? (.oraZpx z) = some (.zpx z) := rfl
@[simp] theorem memOperand?_aslZpx (z : Byte) : memOperand? (.aslZpx z) = some (.zpx z) := rfl
@[simp] theorem memOperand?_oraAby (w : Addr) : memOperand? (.oraAby w) = some (.aby w) := memOperandOf_word .aby w
@[simp] theorem memOperand?_oraAbx (w : Addr) : memOperand? (.oraAbx w) = some (.abx w) := memOperandOf_word .abx w
@[simp] theorem memOperand?_aslAbx (w : Addr) : memOperand? (.aslAbx w) = some (.abx w) := memOperandOf_word .abx w
@[simp] theorem memOperand?_andIzx (z : Byte) : memOperand? (.andIzx z) = some (.izx z) := rfl
@[simp] theorem memOperand?_bitZp (z : Byte) : memOperand? (.bitZp z) = some (.zp z) := rfl
@[simp] theorem memOperand?_andZp (z : Byte) : memOperand? (.andZp z) = some (.zp z) := rfl
@[simp] theorem memOperand?_rolZp (z : Byte) : memOperand? (.rolZp z) = some (.zp z) := rfl
@[simp] theorem memOperand?_bitAbs (w : Addr) : memOperand? (.bitAbs w) = some (.abs w) := memOperandOf_word .abs w
@[simp] theorem memOperand?_andAbs (w : Addr) : memOperand? (.andAbs w) = some (.abs w) := memOperandOf_word .abs w
@[simp] theorem memOperand?_rolAbs (w : Addr) : memOperand? (.rolAbs w) = some (.abs w) := memOperandOf_word .abs w
@[simp] theorem memOperand?_andIzy (z : Byte) : memOperand? (.andIzy z) = some (.izy z) := rfl
@[simp] theorem memOperand?_andZpx (z : Byte) : memOperand? (.andZpx z) = some (.zpx z) := rfl
@[simp] theorem memOperand?_rolZpx (z : Byte) : memOperand? (.rolZpx z) = some (.zpx z) := rfl
@[simp] theorem memOperand?_andAby (w : Addr) : memOperand? (.andAby w) = some (.aby w) := memOperandOf_word .aby w
@[simp] theorem memOperand?_andAbx (w : Addr) : memOperand? (.andAbx w) = some (.abx w) := memOperandOf_word .abx w
@[simp] theorem memOperand?_rolAbx (w : Addr) : memOperand? (.rolAbx w) = some (.abx w) := memOperandOf_word .abx w
@[simp] theorem memOperand?_eorIzx (z : Byte) : memOperand? (.eorIzx z) = some (.izx z) := rfl
@[simp] theorem memOperand?_eorZp (z : Byte) : memOperand? (.eorZp z) = some (.zp z) := rfl
@[simp] theorem memOperand?_lsrZp (z : Byte) : memOperand? (.lsrZp z) = some (.zp z) := rfl
@[simp] theorem memOperand?_eorAbs (w : Addr) : memOperand? (.eorAbs w) = some (.abs w) := memOperandOf_word .abs w
@[simp] theorem memOperand?_lsrAbs (w : Addr) : memOperand? (.lsrAbs w) = some (.abs w) := memOperandOf_word .abs w
@[simp] theorem memOperand?_eorIzy (z : Byte) : memOperand? (.eorIzy z) = some (.izy z) := rfl
@[simp] theorem memOperand?_eorZpx (z : Byte) : memOperand? (.eorZpx z) = some (.zpx z) := rfl
@[simp] theorem memOperand?_lsrZpx (z : Byte) : memOperand? (.lsrZpx z) = some (.zpx z) := rfl
@[simp] theorem memOperand?_eorAby (w : Addr) : memOperand? (.eorAby w) = some (.aby w) := memOperandOf_word .aby w
@[simp] theorem memOperand?_eorAbx (w : Addr) : memOperand? (.eorAbx w) = some (.abx w) := memOperandOf_word .abx w
@[simp] theorem memOperand?_lsrAbx (w : Addr) : memOperand? (.lsrAbx w) = some (.abx w) := memOperandOf_word .abx w
@[simp] theorem memOperand?_adcIzx (z : Byte) : memOperand? (.adcIzx z) = some (.izx z) := rfl
@[simp] theorem memOperand?_adcZp (z : Byte) : memOperand? (.adcZp z) = some (.zp z) := rfl
@[simp] theorem memOperand?_rorZp (z : Byte) : memOperand? (.rorZp z) = some (.zp z) := rfl
@[simp] theorem memOperand?_adcAbs (w : Addr) : memOperand? (.adcAbs w) = some (.abs w) := memOperandOf_word .abs w
@[simp] theorem memOperand?_rorAbs (w : Addr) : memOperand? (.rorAbs w) = some (.abs w) := memOperandOf_word .abs w
@[simp] theorem memOperand?_adcIzy (z : Byte) : memOperand? (.adcIzy z) = some (.izy z) := rfl
@[simp] theorem memOperand?_adcZpx (z : Byte) : memOperand? (.adcZpx z) = some (.zpx z) := rfl
@[simp] theorem memOperand?_rorZpx (z : Byte) : memOperand? (.rorZpx z) = some (.zpx z) := rfl
@[simp] theorem memOperand?_adcAby (w : Addr) : memOperand? (.adcAby w) = some (.aby w) := memOperandOf_word .aby w
@[simp] theorem memOperand?_adcAbx (w : Addr) : memOperand? (.adcAbx w) = some (.abx w) := memOperandOf_word .abx w
@[simp] theorem memOperand?_rorAbx (w : Addr) : memOperand? (.rorAbx w) = some (.abx w) := memOperandOf_word .abx w
@[simp] theorem memOperand?_staIzx (z : Byte) : memOperand? (.staIzx z) = some (.izx z) := rfl
@[simp] theorem memOperand?_styZp (z : Byte) : memOperand? (.styZp z) = some (.zp z) := rfl
@[simp] theorem memOperand?_staZp (z : Byte) : memOperand? (.staZp z) = some (.zp z) := rfl
@[simp] theorem memOperand?_stxZp (z : Byte) : memOperand? (.stxZp z) = some (.zp z) := rfl
@[simp] theorem memOperand?_styAbs (w : Addr) : memOperand? (.styAbs w) = some (.abs w) := memOperandOf_word .abs w
@[simp] theorem memOperand?_staAbs (w : Addr) : memOperand? (.staAbs w) = some (.abs w) := memOperandOf_word .abs w
@[simp] theorem memOperand?_stxAbs (w : Addr) : memOperand? (.stxAbs w) = some (.abs w) := memOperandOf_word .abs w
@[simp] theorem memOperand?_staIzy (z : Byte) : memOperand? (.staIzy z) = some (.izy z) := rfl
@[simp] theorem memOperand?_styZpx (z : Byte) : memOperand? (.styZpx z) = some (.zpx z) := rfl
@[simp] theorem memOperand?_staZpx (z : Byte) : memOperand? (.staZpx z) = some (.zpx z) := rfl
@[simp] theorem memOperand?_stxZpy (z : Byte) : memOperand? (.stxZpy z) = some (.zpy z) := rfl
@[simp] theorem memOperand?_staAby (w : Addr) : memOperand? (.staAby w) = some (.aby w) := memOperandOf_word .aby w
@[simp] theorem memOperand?_staAbx (w : Addr) : memOperand? (.staAbx w) = some (.abx w) := memOperandOf_word .abx w
@[simp] theorem memOperand?_ldaIzx (z : Byte) : memOperand? (.ldaIzx z) = some (.izx z) := rfl
@[simp] theorem memOperand?_ldyZp (z : Byte) : memOperand? (.ldyZp z) = some (.zp z) := rfl
@[simp] theorem memOperand?_ldaZp (z : Byte) : memOperand? (.ldaZp z) = some (.zp z) := rfl
@[simp] theorem memOperand?_ldxZp (z : Byte) : memOperand? (.ldxZp z) = some (.zp z) := rfl
@[simp] theorem memOperand?_ldyAbs (w : Addr) : memOperand? (.ldyAbs w) = some (.abs w) := memOperandOf_word .abs w
@[simp] theorem memOperand?_ldaAbs (w : Addr) : memOperand? (.ldaAbs w) = some (.abs w) := memOperandOf_word .abs w
@[simp] theorem memOperand?_ldxAbs (w : Addr) : memOperand? (.ldxAbs w) = some (.abs w) := memOperandOf_word .abs w
@[simp] theorem memOperand?_ldaIzy (z : Byte) : memOperand? (.ldaIzy z) = some (.izy z) := rfl
@[simp] theorem memOperand?_ldyZpx (z : Byte) : memOperand? (.ldyZpx z) = some (.zpx z) := rfl
@[simp] theorem memOperand?_ldaZpx (z : Byte) : memOperand? (.ldaZpx z) = some (.zpx z) := rfl
@[simp] theorem memOperand?_ldxZpy (z : Byte) : memOperand? (.ldxZpy z) = some (.zpy z) := rfl
@[simp] theorem memOperand?_ldaAby (w : Addr) : memOperand? (.ldaAby w) = some (.aby w) := memOperandOf_word .aby w
@[simp] theorem memOperand?_ldyAbx (w : Addr) : memOperand? (.ldyAbx w) = some (.abx w) := memOperandOf_word .abx w
@[simp] theorem memOperand?_ldaAbx (w : Addr) : memOperand? (.ldaAbx w) = some (.abx w) := memOperandOf_word .abx w
@[simp] theorem memOperand?_ldxAby (w : Addr) : memOperand? (.ldxAby w) = some (.aby w) := memOperandOf_word .aby w
@[simp] theorem memOperand?_cmpIzx (z : Byte) : memOperand? (.cmpIzx z) = some (.izx z) := rfl
@[simp] theorem memOperand?_cpyZp (z : Byte) : memOperand? (.cpyZp z) = some (.zp z) := rfl
@[simp] theorem memOperand?_cmpZp (z : Byte) : memOperand? (.cmpZp z) = some (.zp z) := rfl
@[simp] theorem memOperand?_decZp (z : Byte) : memOperand? (.decZp z) = some (.zp z) := rfl
@[simp] theorem memOperand?_cpyAbs (w : Addr) : memOperand? (.cpyAbs w) = some (.abs w) := memOperandOf_word .abs w
@[simp] theorem memOperand?_cmpAbs (w : Addr) : memOperand? (.cmpAbs w) = some (.abs w) := memOperandOf_word .abs w
@[simp] theorem memOperand?_decAbs (w : Addr) : memOperand? (.decAbs w) = some (.abs w) := memOperandOf_word .abs w
@[simp] theorem memOperand?_cmpIzy (z : Byte) : memOperand? (.cmpIzy z) = some (.izy z) := rfl
@[simp] theorem memOperand?_cmpZpx (z : Byte) : memOperand? (.cmpZpx z) = some (.zpx z) := rfl
@[simp] theorem memOperand?_decZpx (z : Byte) : memOperand? (.decZpx z) = some (.zpx z) := rfl
@[simp] theorem memOperand?_cmpAby (w : Addr) : memOperand? (.cmpAby w) = some (.aby w) := memOperandOf_word .aby w
@[simp] theorem memOperand?_cmpAbx (w : Addr) : memOperand? (.cmpAbx w) = some (.abx w) := memOperandOf_word .abx w
@[simp] theorem memOperand?_decAbx (w : Addr) : memOperand? (.decAbx w) = some (.abx w) := memOperandOf_word .abx w
@[simp] theorem memOperand?_sbcIzx (z : Byte) : memOperand? (.sbcIzx z) = some (.izx z) := rfl
@[simp] theorem memOperand?_cpxZp (z : Byte) : memOperand? (.cpxZp z) = some (.zp z) := rfl
@[simp] theorem memOperand?_sbcZp (z : Byte) : memOperand? (.sbcZp z) = some (.zp z) := rfl
@[simp] theorem memOperand?_incZp (z : Byte) : memOperand? (.incZp z) = some (.zp z) := rfl
@[simp] theorem memOperand?_cpxAbs (w : Addr) : memOperand? (.cpxAbs w) = some (.abs w) := memOperandOf_word .abs w
@[simp] theorem memOperand?_sbcAbs (w : Addr) : memOperand? (.sbcAbs w) = some (.abs w) := memOperandOf_word .abs w
@[simp] theorem memOperand?_incAbs (w : Addr) : memOperand? (.incAbs w) = some (.abs w) := memOperandOf_word .abs w
@[simp] theorem memOperand?_sbcIzy (z : Byte) : memOperand? (.sbcIzy z) = some (.izy z) := rfl
@[simp] theorem memOperand?_sbcZpx (z : Byte) : memOperand? (.sbcZpx z) = some (.zpx z) := rfl
@[simp] theorem memOperand?_incZpx (z : Byte) : memOperand? (.incZpx z) = some (.zpx z) := rfl
@[simp] theorem memOperand?_sbcAby (w : Addr) : memOperand? (.sbcAby w) = some (.aby w) := memOperandOf_word .aby w
@[simp] theorem memOperand?_sbcAbx (w : Addr) : memOperand? (.sbcAbx w) = some (.abx w) := memOperandOf_word .abx w
@[simp] theorem memOperand?_incAbx (w : Addr) : memOperand? (.incAbx w) = some (.abx w) := memOperandOf_word .abx w

/-- What every instruction is: a charge, by its own opcode and branch extra, of a state that has the old balance and says
in `page_crossed` whether the instruction crossed a page. -/
def IsCharge (i : Instr) (s : State) : Prop :=
  ∃ u, exec i s = charge (opcode i) (branchExtra i s) u ∧ u.cyclesAvailable = s.cyclesAvailable ∧
    u.pageCrossed = crossesPage i s

/-- A reading instruction with a memory operand is a charge. -/
theorem isCharge_read {i : Instr} {op : Byte} {act : Byte → State → State} {m : MemOperand} {s : State}
    (hm : memOperand? i = some m) (he : exec i s = readInstr op act (.mem m) s) (ho : opcode i = op)
    (hb : branchExtra i s = 0) (hc : ∀ v u, (act v u).cyclesAvailable = u.cyclesAvailable)
    (hp : ∀ v u, (act v u).pageCrossed = u.pageCrossed) : IsCharge i s := by
  unfold IsCharge
  rw [he, ho, hb]
  exact ⟨_, rfl, by simp [hc], by simp [hp, crossesPage, hm, operandCross]⟩

/-- A storing instruction is a charge. -/
theorem isCharge_store {i : Instr} {op : Byte} {src : State → Byte} {m : MemOperand} {s : State}
    (hm : memOperand? i = some m) (he : exec i s = storeInstr op src m s) (ho : opcode i = op)
    (hb : branchExtra i s = 0) : IsCharge i s := by
  unfold IsCharge
  rw [he, ho, hb]
  exact ⟨_, rfl, by simp, by simp [crossesPage, hm]⟩

/-- A read-modify-write instruction is a charge. -/
theorem isCharge_rmw {i : Instr} {op : Byte} {f : Byte → Flags → Byte × Flags} {m : MemOperand} {s : State}
    (hm : memOperand? i = some m) (he : exec i s = rmwInstr op f m s) (ho : opcode i = op)
    (hb : branchExtra i s = 0) : IsCharge i s := by
  unfold IsCharge
  rw [he, ho, hb]
  exact ⟨_, rfl, by simp, by simp [crossesPage, hm]⟩

/-- An instruction with an immediate operand is a charge. -/
theorem isCharge_imm {i : Instr} {op : Byte} {act : Byte → State → State} {v : Byte} {s : State}
    (hm : memOperand? i = none) (he : exec i s = readInstr op act (.imm v) s) (ho : opcode i = op)
    (hb : branchExtra i s = 0) (hc : ∀ v u, (act v u).cyclesAvailable = u.cyclesAvailable)
    (hp : ∀ v u, (act v u).pageCrossed = u.pageCrossed) : IsCharge i s := by
  unfold IsCharge
  rw [he, ho, hb]
  exact ⟨_, rfl, by simp [hc], by simp [hp, crossesPage, hm, operandCross]⟩

/-- An instruction without a memory operand is a charge. -/
theorem isCharge_plain {i : Instr} {op : Byte} {u s : State} (hm : memOperand? i = none)
    (he : exec i s = charge op 0 u) (ho : opcode i = op) (hb : branchExtra i s = 0)
    (hc : u.cyclesAvailable = s.cyclesAvailable) (hp : u.pageCrossed = false) : IsCharge i s := by
  unfold IsCharge
  rw [he, ho, hb]
  exact ⟨u, rfl, hc, by simp [hp, crossesPage, hm]⟩

/-- A branch is a charge. -/
theorem isCharge_branch {i : Instr} {op : Byte} {cond : Flags → Bool} {disp : Byte} {s : State}
    (he : exec i s = branch op cond disp s) (ho : opcode i = op) (hm : memOperand? i = none) (hl : i.length = 2)
    (hd : (operandBytes i).getD 0 0 = disp) (hc : branchCond? i.mnemonic s.flags = some (cond s.flags)) :
    IsCharge i s := by
  have hx : crossesPage i s = false := by simp [crossesPage, hm]
  have hn : nextAddr i s = (fetch 2 s).pc := by simp [nextAddr, hl]
  unfold IsCharge
  rw [he, ho, hx]
  simp only [branchExtra, hc, hd, hn, branch, fetch_flags]
  by_cases h : cond s.flags = true
  · simp only [h, if_true]
    exact ⟨_, rfl, rfl, rfl⟩
  · simp only [h]
    exact ⟨_, rfl, rfl, rfl⟩

/-- Every instruction is a charge. -/
theorem exec_is_charge : ∀ (i : Instr) (s : State), IsCharge i s
  | .brk, _ => isCharge_plain rfl rfl rfl rfl (by simp [trapEntry, pushWord]) (by simp [trapEntry, pushWord])
  | .oraIzx _, _ => isCharge_read (memOperand?_oraIzx _) rfl rfl rfl (fun _ _ => rfl) (fun _ _ => rfl)
  | .oraZp _, _ => isCharge_read (memOperand?_oraZp _) rfl rfl rfl (fun _ _ => rfl) (fun _ _ => rfl)
  | .aslZp _, _ => isCharge_rmw (memOperand?_aslZp _) rfl rfl rfl
  | .php, _ => isCharge_plain rfl rfl rfl rfl rfl rfl
  | .oraImm _, _ => isCharge_imm rfl rfl rfl rfl (fun _ _ => rfl) (fun _ _ => rfl)
  | .aslAcc, _ => isCharge_plain rfl rfl rfl rfl rfl rfl
  | .oraAbs _, _ => isCharge_read (memOperand?_oraAbs _) rfl rfl rfl (fun _ _ => rfl) (fun _ _ => rfl)
  | .aslAbs _, _ => isCharge_rmw (memOperand?_aslAbs _) rfl rfl rfl
  | .bpl _, _ => isCharge_branch (cond := fun f => !f.n) rfl rfl rfl rfl rfl rfl
  | .oraIzy _, _ => isCharge_read (memOperand?_oraIzy _) rfl rfl rfl (fun _ _ => rfl) (fun _ _ => rfl)
  | .oraZpx _, _ => isCharge_read (memOperand?_oraZpx _) rfl rfl rfl (fun _ _ => rfl) (fun _ _ => rfl)
  | .aslZpx _, _ => isCharge_rmw (memOperand?_aslZpx _) rfl rfl rfl
  | .clc, _ => isCharge_plain rfl rfl rfl rfl rfl rfl
  | .oraAby _, _ => isCharge_read (memOperand?_oraAby _) rfl rfl rfl (fun _ _ => rfl) (fun _ _ => rfl)
  | .oraAbx _, _ => isCharge_read (memOperand?_oraAbx _) rfl rfl rfl (fun _ _ => rfl) (fun _ _ => rfl)
  | .aslAbx _, _ => isCharge_rmw (memOperand?_aslAbx _) rfl rfl rfl
  | .jsr _, _ => isCharge_plain rfl rfl rfl rfl (by simp [pushWord]) (by simp [pushWord])
  | .andIzx _, _ => isCharge_read (memOperand?_andIzx _) rfl rfl rfl (fun _ _ => rfl) (fun _ _ => rfl)
  | .bitZp _, _ => isCharge_read (memOperand?_bitZp _) rfl rfl rfl (fun _ _ => rfl) (fun _ _ => rfl)
  | .andZp _, _ => isCharge_read (memOperand?_andZp _) rfl rfl rfl (fun _ _ => rfl) (fun _ _ => rfl)
  | .rolZp _, _ => isCharge_rmw (memOperand?_rolZp _) rfl rfl rfl
  | .plp, _ => isCharge_plain rfl rfl rfl rfl rfl rfl
  | .andImm _, _ => isCharge_imm rfl rfl rfl rfl (fun _ _ => rfl) (fun _ _ => rfl)
  | .rolAcc, _ => isCharge_plain rfl rfl rfl rfl rfl rfl
  | .bitAbs _, _ => isCharge_read (memOperand?_bitAbs _) rfl rfl rfl (fun _ _ => rfl) (fun _ _ => rfl)
  | .andAbs _, _ => isCharge_read (memOperand?_andAbs _) rfl rfl rfl (fun _ _ => rfl) (fun _ _ => rfl)
  | .rolAbs _, _ => isCharge_rmw (memOperand?_rolAbs _) rfl rfl rfl
  | .bmi _, _ => isCharge_branch rfl rfl rfl rfl rfl rfl
  | .andIzy _, _ => isCharge_read (memOperand?_andIzy _) rfl rfl rfl (fun _ _ => rfl) (fun _ _ => rfl)
  | .andZpx _, _ => isCharge_read (memOperand?_andZpx _) rfl rfl rfl (fun _ _ => rfl) (fun _ _ => rfl)
  | .rolZpx _, _ => isCharge_rmw (memOperand?_rolZpx _) rfl rfl rfl
  | .sec, _ => isCharge_plain rfl rfl rfl rfl rfl rfl
  | .andAby _, _ => isCharge_read (memOperand?_andAby _) rfl rfl rfl (fun _ _ => rfl) (fun _ _ => rfl)
  | .andAbx _, _ => isCharge_read (memOperand?_andAbx _) rfl rfl rfl (fun _ _ => rfl) (fun _ _ => rfl)
  | .rolAbx _, _ => isCharge_rmw (memOperand?_rolAbx _) rfl rfl rfl
  | .rti, _ => isCharge_plain rfl rfl rfl rfl (by simp [trapReturn, pullWord]) (by simp [trapReturn, pullWord])
  | .eorIzx _, _ => isCharge_read (memOperand?_eorIzx _) rfl rfl rfl (fun _ _ => rfl) (fun _ _ => rfl)
  | .eorZp _, _ => isCharge_read (memOperand?_eorZp _) rfl rfl rfl (fun _ _ => rfl) (fun _ _ => rfl)
  | .lsrZp _, _ => isCharge_rmw (memOperand?_lsrZp _) rfl rfl rfl
  | .pha, _ => isCharge_plain rfl rfl rfl rfl rfl rfl
  | .eorImm _, _ => isCharge_imm rfl rfl rfl rfl (fun _ _ => rfl) (fun _ _ => rfl)
  | .lsrAcc, _ => isCharge_plain rfl rfl rfl rfl rfl rfl
  | .jmpAbs _, _ => isCharge_plain rfl rfl rfl rfl rfl rfl
  | .eorAbs _, _ => isCharge_read (memOperand?_eorAbs _) rfl rfl rfl (fun _ _ => rfl) (fun _ _ => rfl)
  | .lsrAbs _, _ => isCharge_rmw (memOperand?_lsrAbs _) rfl rfl rfl
  | .bvc _, _ => isCharge_branch (cond := fun f => !f.v) rfl rfl rfl rfl rfl rfl
  | .eorIzy _, _ => isCharge_read (memOperand?_eorIzy _) rfl rfl rfl (fun _ _ => rfl) (fun _ _ => rfl)
  | .eorZpx _, _ => isCharge_read (memOperand?_eorZpx _) rfl rfl rfl (fun _ _ => rfl) (fun _ _ => rfl)
  | .lsrZpx _, _ => isCharge_rmw (memOperand?_lsrZpx _) rfl rfl rfl
  | .cli, _ => isCharge_plain rfl rfl rfl rfl rfl rfl
  | .eorAby _, _ => isCharge_read (memOperand?_eorAby _) rfl rfl rfl (fun _ _ => rfl) (fun _ _ => rfl)
  | .eorAbx _, _ => isCharge_read (memOperand?_eorAbx _) rfl rfl rfl (fun _ _ => rfl) (fun _ _ => rfl)
  | .lsrAbx _, _ => isCharge_rmw (memOperand?_lsrAbx _) rfl rfl rfl
  | .rts, _ => isCharge_plain rfl rfl rfl rfl (by simp [pullWord]) (by simp [pullWord])
  | .adcIzx _, _ => isCharge_read (memOperand?_adcIzx _) rfl rfl rfl (fun _ _ => rfl) (fun _ _ => rfl)
  | .adcZp _, _ => isCharge_read (memOperand?_adcZp _) rfl rfl rfl (fun _ _ => rfl) (fun _ _ => rfl)
  | .rorZp _, _ => isCharge_rmw (memOperand?_rorZp _) rfl rfl rfl
  | .pla, _ => isCharge_plain rfl rfl rfl rfl rfl rfl
  | .adcImm _, _ => isCharge_imm rfl rfl rfl rfl (fun _ _ => rfl) (fun _ _ => rfl)
  | .rorAcc, _ => isCharge_plain rfl rfl rfl rfl rfl rfl
  | .jmpInd _, _ => isCharge_plain rfl rfl rfl rfl rfl rfl
  | .adcAbs _, _ => isCharge_read (memOperand?_adcAbs _) rfl rfl rfl (fun _ _ => rfl) (fun _ _ => rfl)
  | .rorAbs _, _ => isCharge_rmw (memOperand?_rorAbs _) rfl rfl rfl
  | .bvs _, _ => isCharge_branch rfl rfl rfl rfl rfl rfl
  | .adcIzy _, _ => isCharge_read (memOperand?_adcIzy _) rfl rfl rfl (fun _ _ => rfl) (fun _ _ => rfl)
  | .adcZpx _, _ => isCharge_read (memOperand?_adcZpx _) rfl rfl rfl (fun _ _ => rfl) (fun _ _ => rfl)
  | .rorZpx _, _ => isCharge_rmw (memOperand?_rorZpx _) rfl rfl rfl
  | .sei, _ => isCharge_plain rfl rfl rfl rfl rfl rfl
  | .adcAby _, _ => isCharge_read (memOperand?_adcAby _) rfl rfl rfl (fun _ _ => rfl) (fun _ _ => rfl)
  | .adcAbx _, _ => isCharge_read (memOperand?_adcAbx _) rfl rfl rfl (fun _ _ => rfl) (fun _ _ => rfl)
  | .rorAbx _, _ => isCharge_rmw (memOperand?_rorAbx _) rfl rfl rfl
  | .staIzx _, _ => isCharge_store (memOperand?_staIzx _) rfl rfl rfl
  | .styZp _, _ => isCharge_store (memOperand?_styZp _) rfl rfl rfl
  | .staZp _, _ => isCharge_store (memOperand?_staZp _) rfl rfl rfl
  | .stxZp _, _ => isCharge_store (memOperand?_stxZp _) rfl rfl rfl
  | .dey, _ => isCharge_plain rfl rfl rfl rfl rfl rfl
  | .txa, _ => isCharge_plain rfl rfl rfl rfl rfl rfl
  | .styAbs _, _ => isCharge_store (memOperand?_styAbs _) rfl rfl rfl
  | .staAbs _, _ => isCharge_store (memOperand?_staAbs _) rfl rfl rfl
  | .stxAbs _, _ => isCharge_store (memOperand?_stxAbs _) rfl rfl rfl
  | .bcc _, _ => isCharge_branch (cond := fun f => !f.c) rfl rfl rfl rfl rfl rfl
  | .staIzy _, _ => isCharge_store (memOperand?_staIzy _) rfl rfl rfl
  | .styZpx _, _ => isCharge_store (memOperand?_styZpx _) rfl rfl rfl
  | .staZpx _, _ => isCharge_store (memOperand?_staZpx _) rfl rfl rfl
  | .stxZpy _, _ => isCharge_store (memOperand?_stxZpy _) rfl rfl rfl
  | .tya, _ => isCharge_plain rfl rfl rfl rfl rfl rfl
  | .staAby _, _ => isCharge_store (memOperand?_staAby _) rfl rfl rfl
  | .txs, _ => isCharge_plain rfl rfl rfl rfl rfl rfl
  | .staAbx _, _ => isCharge_store (memOperand?_staAbx _) rfl rfl rfl
  | .ldyImm _, _ => isCharge_imm rfl rfl rfl rfl (fun _ _ => rfl) (fun _ _ => rfl)
  | .ldaIzx _, _ => isCharge_read (memOperand?_ldaIzx _) rfl rfl rfl (fun _ _ => rfl) (fun _ _ => rfl)
  | .ldxImm _, _ => isCharge_imm rfl rfl rfl rfl (fun _ _ => rfl) (fun _ _ => rfl)
  | .ldyZp _, _ => isCharge_read (memOperand?_ldyZp _) rfl rfl rfl (fun _ _ => rfl) (fun _ _ => rfl)
  | .ldaZp _, _ => isCharge_read (memOperand?_ldaZp _) rfl rfl rfl (fun _ _ => rfl) (fun _ _ => rfl)
  | .ldxZp _, _ => isCharge_read (memOperand?_ldxZp _) rfl rfl rfl (fun _ _ => rfl) (fun _ _ => rfl)
  | .tay, _ => isCharge_plain rfl rfl rfl rfl rfl rfl
  | .ldaImm _, _ => isCharge_imm rfl rfl rfl rfl (fun _ _ => rfl) (fun _ _ => rfl)
  | .tax, _ => isCharge_plain rfl rfl rfl rfl rfl rfl
  | .ldyAbs _, _ => isCharge_read (memOperand?_ldyAbs _) rfl rfl rfl (fun _ _ => rfl) (fun _ _ => rfl)
  | .ldaAbs _, _ => isCharge_read (memOperand?_ldaAbs _) rfl rfl rfl (fun _ _ => rfl) (fun _ _ => rfl)
  | .ldxAbs _, _ => isCharge_read (memOperand?_ldxAbs _) rfl rfl rfl (fun _ _ => rfl) (fun _ _ => rfl)
  | .bcs _, _ => isCharge_branch rfl rfl rfl rfl rfl rfl
  | .ldaIzy _, _ => isCharge_read (memOperand?_ldaIzy _) rfl rfl rfl (fun _ _ => rfl) (fun _ _ => rfl)
  | .ldyZpx _, _ => isCharge_read (memOperand?_ldyZpx _) rfl rfl rfl (fun _ _ => rfl) (fun _ _ => rfl)
  | .ldaZpx _, _ => isCharge_read (memOperand?_ldaZpx _) rfl rfl rfl (fun _ _ => rfl) (fun _ _ => rfl)
  | .ldxZpy _, _ => isCharge_read (memOperand?_ldxZpy _) rfl rfl rfl (fun _ _ => rfl) (fun _ _ => rfl)
  | .clv, _ => isCharge_plain rfl rfl rfl rfl rfl rfl
  | .ldaAby _, _ => isCharge_read (memOperand?_ldaAby _) rfl rfl rfl (fun _ _ => rfl) (fun _ _ => rfl)
  | .tsx, _ => isCharge_plain rfl rfl rfl rfl rfl rfl
  | .ldyAbx _, _ => isCharge_read (memOperand?_ldyAbx _) rfl rfl rfl (fun _ _ => rfl) (fun _ _ => rfl)
  | .ldaAbx _, _ => isCharge_read (memOperand?_ldaAbx _) rfl rfl rfl (fun _ _ => rfl) (fun _ _ => rfl)
  | .ldxAby _, _ => isCharge_read (memOperand?_ldxAby _) rfl rfl rfl (fun _ _ => rfl) (fun _ _ => rfl)
  | .cpyImm _, _ => isCharge_imm rfl rfl rfl rfl (fun _ _ => rfl) (fun _ _ => rfl)
  | .cmpIzx _, _ => isCharge_read (memOperand?_cmpIzx _) rfl rfl rfl (fun _ _ => rfl) (fun _ _ => rfl)
  | .cpyZp _, _ => isCharge_read (memOperand?_cpyZp _) rfl rfl rfl (fun _ _ => rfl) (fun _ _ => rfl)
  | .cmpZp _, _ => isCharge_read (memOperand?_cmpZp _) rfl rfl rfl (fun _ _ => rfl) (fun _ _ => rfl)
  | .decZp _, _ => isCharge_rmw (memOperand?_decZp _) rfl rfl rfl
  | .iny, _ => isCharge_plain rfl rfl rfl rfl rfl rfl
  | .cmpImm _, _ => isCharge_imm rfl rfl rfl rfl (fun _ _ => rfl) (fun _ _ => rfl)
  | .dex, _ => isCharge_plain rfl rfl rfl rfl rfl rfl
  | .cpyAbs _, _ => isCharge_read (memOperand?_cpyAbs _) rfl rfl rfl (fun _ _ => rfl) (fun _ _ => rfl)
  | .cmpAbs _, _ => isCharge_read (memOperand?_cmpAbs _) rfl rfl rfl (fun _ _ => rfl) (fun _ _ => rfl)
  | .decAbs _, _ => isCharge_rmw (memOperand?_decAbs _) rfl rfl rfl
  | .bne _, _ => isCharge_branch (cond := fun f => !f.z) rfl rfl rfl rfl rfl rfl
  | .cmpIzy _, _ => isCharge_read (memOperand?_cmpIzy _) rfl rfl rfl (fun _ _ => rfl) (fun _ _ => rfl)
  | .cmpZpx _, _ => isCharge_read (memOperand?_cmpZpx _) rfl rfl rfl (fun _ _ => rfl) (fun _ _ => rfl)
  | .decZpx _, _ => isCharge_rmw (memOperand?_decZpx _) rfl rfl rfl
  | .cld, _ => isCharge_plain rfl rfl rfl rfl rfl rfl
  | .cmpAby _, _ => isCharge_read (memOperand?_cmpAby _) rfl rfl rfl (fun _ _ => rfl) (fun _ _ => rfl)
  | .cmpAbx _, _ => isCharge_read (memOperand?_cmpAbx _) rfl rfl rfl (fun _ _ => rfl) (fun _ _ => rfl)
  | .decAbx _, _ => isCharge_rmw (memOperand?_decAbx _) rfl rfl rfl
  | .cpxImm _, _ => isCharge_imm rfl rfl rfl rfl (fun _ _ => rfl) (fun _ _ => rfl)
  | .sbcIzx _, _ => isCharge_read (memOperand?_sbcIzx _) rfl rfl rfl (fun _ _ => rfl) (fun _ _ => rfl)
  | .cpxZp _, _ => isCharge_read (memOperand?_cpxZp _) rfl rfl rfl (fun _ _ => rfl) (fun _ _ => rfl)
  | .sbcZp _, _ => isCharge_read (memOperand?_sbcZp _) rfl rfl rfl (fun _ _ => rfl) (fun _ _ => rfl)
  | .incZp _, _ => isCharge_rmw (memOperand?_incZp _) rfl rfl rfl
  | .inx, _ => isCharge_plain rfl rfl rfl rfl rfl rfl
  | .sbcImm _, _ => isCharge_imm rfl rfl rfl rfl (fun _ _ => rfl) (fun _ _ => rfl)
  | .nop, _ => isCharge_plain rfl rfl rfl rfl rfl rfl
  | .cpxAbs _, _ => isCharge_read (memOperand?_cpxAbs _) rfl rfl rfl (fun _ _ => rfl) (fun _ _ => rfl)
  | .sbcAbs _, _ => isCharge_read (memOperand?_sbcAbs _) rfl rfl rfl (fun _ _ => rfl) (fun _ _ => rfl)
  | .incAbs _, _ => isCharge_rmw (memOperand?_incAbs _) rfl rfl rfl
  | .beq _, _ => isCharge_branch rfl rfl rfl rfl rfl rfl
  | .sbcIzy _, _ => isCharge_read (memOperand?_sbcIzy _) rfl rfl rfl (fun _ _ => rfl) (fun _ _ => rfl)
  | .sbcZpx _, _ => isCharge_read (memOperand?_sbcZpx _) rfl rfl rfl (fun _ _ => rfl) (fun _ _ => rfl)
  | .incZpx _, _ => isCharge_rmw (memOperand?_incZpx _) rfl rfl rfl
  | .sed, _ => isCharge_plain rfl rfl rfl rfl rfl rfl
  | .sbcAby _, _ => isCharge_read (memOperand?_sbcAby _) rfl rfl rfl (fun _ _ => rfl) (fun _ _ => rfl)
  | .sbcAbx _, _ => isCharge_read (memOperand?_sbcAbx _) rfl rfl rfl (fun _ _ => rfl) (fun _ _ => rfl)
  | .incAbx _, _ => isCharge_rmw (memOperand?_incAbx _) rfl rfl rfl

end Sys2Proof.Machine
end

