-- ==== Sys2Proof/Laws/Memory.lean ====
section
/-! SUPPORT. The laws of memory (R51): a read after a write, and the canonical form that every memory operation keeps. -/

namespace Sys2Proof.Machine

/-- Below the first address a canonical list may hold, it reads as an unlisted address. -/
theorem Memory.readAt_of_lt {m : Memory} {lo a : Nat} (h : Memory.wfFrom lo m = true) (ha : a < lo) :
    Memory.readAt m a = 0#8 := by
  cases m with
  | nil => rfl
  | cons c m =>
    obtain ⟨b, w⟩ := c
    simp only [Memory.wfFrom, Bool.and_eq_true, decide_eq_true_eq] at h
    have hb : a < b := by omega
    simp [Memory.readAt, hb, Nat.ne_of_lt hb]

/-- A canonical list from an address on is one from any lower address on. -/
theorem Memory.wfFrom_mono {m : Memory} {lo lo' : Nat} (h : Memory.wfFrom lo m = true) (hl : lo' ≤ lo) :
    Memory.wfFrom lo' m = true := by
  cases m with
  | nil => rfl
  | cons c m =>
    obtain ⟨b, w⟩ := c
    simp only [Memory.wfFrom, Bool.and_eq_true, decide_eq_true_eq] at h ⊢
    exact ⟨⟨⟨by omega, h.1.1.2⟩, h.1.2⟩, h.2⟩

theorem Memory.readAt_writeAt_same {m : Memory} {lo : Nat} (h : Memory.wfFrom lo m = true) (a : Nat) (v : Byte) :
    Memory.readAt (Memory.writeAt m a v) a = v := by
  induction m generalizing lo with
  | nil =>
    by_cases hv : v = 0#8 <;> simp [Memory.writeAt, Memory.readAt, hv]
  | cons c m ih =>
    obtain ⟨b, w⟩ := c
    simp only [Memory.wfFrom, Bool.and_eq_true, decide_eq_true_eq] at h
    by_cases hab : a = b
    · by_cases hv : v = 0#8
      · simpa [Memory.writeAt, hab, hv] using Memory.readAt_of_lt h.2 (Nat.lt_succ_self b)
      · simp [Memory.writeAt, Memory.readAt, hab, hv]
    · by_cases hlt : a < b
      · by_cases hv : v = 0#8 <;> simp [Memory.writeAt, Memory.readAt, hab, hlt, hv]
      · simpa [Memory.writeAt, Memory.readAt, hab, hlt] using ih h.2

theorem Memory.readAt_writeAt_other {m : Memory} {lo : Nat} (h : Memory.wfFrom lo m = true) {a c : Nat} (v : Byte)
    (hc : c ≠ a) : Memory.readAt (Memory.writeAt m a v) c = Memory.readAt m c := by
  induction m generalizing lo with
  | nil =>
    by_cases hv : v = 0#8 <;> simp [Memory.writeAt, Memory.readAt, hv, hc]
  | cons p m ih =>
    obtain ⟨b, w⟩ := p
    simp only [Memory.wfFrom, Bool.and_eq_true, decide_eq_true_eq] at h
    by_cases hab : a = b
    · subst hab
      by_cases hv : v = 0#8
      · simp only [Memory.writeAt, hv, if_true, Memory.readAt, if_neg hc]
        by_cases hca : c < a
        · simpa [hca] using Memory.readAt_of_lt h.2 (by omega)
        · simp [hca]
      · simp [Memory.writeAt, Memory.readAt, hv, hc]
    · by_cases hlt : a < b
      · by_cases hv : v = 0#8
        · simp [Memory.writeAt, hab, hlt, hv]
        · simp only [Memory.writeAt, hab, hlt, hv, if_true, if_false, Memory.readAt, if_neg hc]
          by_cases hca : c < a
          · have : c < b := by omega
            simp [hca, this, Nat.ne_of_lt this]
          · simp [hca]
      · simp [Memory.writeAt, Memory.readAt, hab, hlt, ih h.2]

theorem Memory.wfFrom_writeAt {m : Memory} {lo a : Nat} (h : Memory.wfFrom lo m = true) (v : Byte) (hlo : lo ≤ a)
    (ha : a < 65536) : Memory.wfFrom lo (Memory.writeAt m a v) = true := by
  induction m generalizing lo with
  | nil =>
    by_cases hv : v = 0#8 <;> simp [Memory.writeAt, Memory.wfFrom, hv, hlo, ha]
  | cons p m ih =>
    obtain ⟨b, w⟩ := p
    simp only [Memory.wfFrom, Bool.and_eq_true, decide_eq_true_eq, bne_iff_ne] at h
    obtain ⟨⟨⟨hb, hb'⟩, hw⟩, hm⟩ := h
    by_cases hab : a = b
    · subst hab
      by_cases hv : v = 0#8
      · simpa [Memory.writeAt, hv] using Memory.wfFrom_mono hm (by omega)
      · simp [Memory.writeAt, Memory.wfFrom, hv, hlo, ha, hm]
    · by_cases hlt : a < b
      · have hb1 : a + 1 ≤ b := hlt
        by_cases hv : v = 0#8 <;> simp [Memory.writeAt, Memory.wfFrom, hab, hlt, hv, hb, hb', hw, hm, hlo, ha, hb1]
      · have : Memory.wfFrom (b + 1) (Memory.writeAt m a v) = true := ih hm (by omega)
        simp [Memory.writeAt, Memory.wfFrom, hab, hlt, hb, hb', hw, this]

/-- A read after a write to the same address gives the byte written. -/
theorem Memory.read_write_same {m : Memory} (h : m.wf = true) (a : Addr) (v : Byte) : (m.write a v).read a = v :=
  Memory.readAt_writeAt_same h _ _

/-- A write leaves every other address alone. -/
theorem Memory.read_write_other {m : Memory} (h : m.wf = true) {a c : Addr} (v : Byte) (hc : c ≠ a) :
    (m.write a v).read c = m.read c :=
  Memory.readAt_writeAt_other h v fun e => hc (BitVec.eq_of_toNat_eq e)

/-- Every write keeps the canonical form. -/
theorem Memory.write_wf {m : Memory} (h : m.wf = true) (a : Addr) (v : Byte) : (m.write a v).wf = true :=
  Memory.wfFrom_writeAt h v (Nat.zero_le _) a.isLt

/-- The memory of a fresh CORE is canonical. -/
theorem reset_mem_wf : State.reset.mem.wf = true := rfl

end Sys2Proof.Machine
end

