-- ==== Sys2Proof/Laws/PerInstr.lean ====
section
/-! SUPPORT. The per-instruction family Encoding: the length of an instruction's bytes is its mode's (R70, R71), and its base
charge is 2 to 7 cycles (R144, R310). One lemma per constructor. -/

namespace Sys2Proof.Laws.Encoding

/-- The bytes of an instruction are as many as its mode says, 1 to 3, and its opcode is charged 2 to 7 cycles. -/
def Statement (i : Instr) : Prop :=
  (encode i).length = i.length ∧ 1 ≤ i.length ∧ i.length ≤ 3 ∧
    2 ≤ Machine.baseCycles (opcode i) ∧ Machine.baseCycles (opcode i) ≤ 7

/-- The statement from an instruction's mode and opcode. -/
theorem of_mode_opcode {i : Instr} {m : AddrMode} {op : Byte} (hm : i.mode = m) (ho : opcode i = op)
    (hl : (encode i).length = i.length)
    (h : 1 ≤ m.length ∧ m.length ≤ 3 ∧ 2 ≤ Machine.baseCycles op ∧ Machine.baseCycles op ≤ 7) : Statement i := by
  subst hm ho
  exact ⟨hl, h⟩

theorem brk : Statement .brk :=
  of_mode_opcode (m := .imp) (op := 0x00) rfl rfl rfl (by decide)
theorem oraIzx (zp : Byte) : Statement (.oraIzx zp) :=
  of_mode_opcode (m := .izx) (op := 0x01) rfl rfl rfl (by decide)
theorem oraZp (zp : Byte) : Statement (.oraZp zp) :=
  of_mode_opcode (m := .zp) (op := 0x05) rfl rfl rfl (by decide)
theorem aslZp (zp : Byte) : Statement (.aslZp zp) :=
  of_mode_opcode (m := .zp) (op := 0x06) rfl rfl rfl (by decide)
theorem php : Statement .php :=
  of_mode_opcode (m := .imp) (op := 0x08) rfl rfl rfl (by decide)
theorem oraImm (value : Byte) : Statement (.oraImm value) :=
  of_mode_opcode (m := .imm) (op := 0x09) rfl rfl rfl (by decide)
theorem aslAcc : Statement .aslAcc :=
  of_mode_opcode (m := .acc) (op := 0x0A) rfl rfl rfl (by decide)
theorem oraAbs (addr : Addr) : Statement (.oraAbs addr) :=
  of_mode_opcode (m := .abs) (op := 0x0D) rfl rfl rfl (by decide)
theorem aslAbs (addr : Addr) : Statement (.aslAbs addr) :=
  of_mode_opcode (m := .abs) (op := 0x0E) rfl rfl rfl (by decide)
theorem bpl (disp : Byte) : Statement (.bpl disp) :=
  of_mode_opcode (m := .rel) (op := 0x10) rfl rfl rfl (by decide)
theorem oraIzy (zp : Byte) : Statement (.oraIzy zp) :=
  of_mode_opcode (m := .izy) (op := 0x11) rfl rfl rfl (by decide)
theorem oraZpx (zp : Byte) : Statement (.oraZpx zp) :=
  of_mode_opcode (m := .zpx) (op := 0x15) rfl rfl rfl (by decide)
theorem aslZpx (zp : Byte) : Statement (.aslZpx zp) :=
  of_mode_opcode (m := .zpx) (op := 0x16) rfl rfl rfl (by decide)
theorem clc : Statement .clc :=
  of_mode_opcode (m := .imp) (op := 0x18) rfl rfl rfl (by decide)
theorem oraAby (base : Addr) : Statement (.oraAby base) :=
  of_mode_opcode (m := .aby) (op := 0x19) rfl rfl rfl (by decide)
theorem oraAbx (base : Addr) : Statement (.oraAbx base) :=
  of_mode_opcode (m := .abx) (op := 0x1D) rfl rfl rfl (by decide)
theorem aslAbx (base : Addr) : Statement (.aslAbx base) :=
  of_mode_opcode (m := .abx) (op := 0x1E) rfl rfl rfl (by decide)
theorem jsr (addr : Addr) : Statement (.jsr addr) :=
  of_mode_opcode (m := .abs) (op := 0x20) rfl rfl rfl (by decide)
theorem andIzx (zp : Byte) : Statement (.andIzx zp) :=
  of_mode_opcode (m := .izx) (op := 0x21) rfl rfl rfl (by decide)
theorem bitZp (zp : Byte) : Statement (.bitZp zp) :=
  of_mode_opcode (m := .zp) (op := 0x24) rfl rfl rfl (by decide)
theorem andZp (zp : Byte) : Statement (.andZp zp) :=
  of_mode_opcode (m := .zp) (op := 0x25) rfl rfl rfl (by decide)
theorem rolZp (zp : Byte) : Statement (.rolZp zp) :=
  of_mode_opcode (m := .zp) (op := 0x26) rfl rfl rfl (by decide)
theorem plp : Statement .plp :=
  of_mode_opcode (m := .imp) (op := 0x28) rfl rfl rfl (by decide)
theorem andImm (value : Byte) : Statement (.andImm value) :=
  of_mode_opcode (m := .imm) (op := 0x29) rfl rfl rfl (by decide)
theorem rolAcc : Statement .rolAcc :=
  of_mode_opcode (m := .acc) (op := 0x2A) rfl rfl rfl (by decide)
theorem bitAbs (addr : Addr) : Statement (.bitAbs addr) :=
  of_mode_opcode (m := .abs) (op := 0x2C) rfl rfl rfl (by decide)
theorem andAbs (addr : Addr) : Statement (.andAbs addr) :=
  of_mode_opcode (m := .abs) (op := 0x2D) rfl rfl rfl (by decide)
theorem rolAbs (addr : Addr) : Statement (.rolAbs addr) :=
  of_mode_opcode (m := .abs) (op := 0x2E) rfl rfl rfl (by decide)
theorem bmi (disp : Byte) : Statement (.bmi disp) :=
  of_mode_opcode (m := .rel) (op := 0x30) rfl rfl rfl (by decide)
theorem andIzy (zp : Byte) : Statement (.andIzy zp) :=
  of_mode_opcode (m := .izy) (op := 0x31) rfl rfl rfl (by decide)
theorem andZpx (zp : Byte) : Statement (.andZpx zp) :=
  of_mode_opcode (m := .zpx) (op := 0x35) rfl rfl rfl (by decide)
theorem rolZpx (zp : Byte) : Statement (.rolZpx zp) :=
  of_mode_opcode (m := .zpx) (op := 0x36) rfl rfl rfl (by decide)
theorem sec : Statement .sec :=
  of_mode_opcode (m := .imp) (op := 0x38) rfl rfl rfl (by decide)
theorem andAby (base : Addr) : Statement (.andAby base) :=
  of_mode_opcode (m := .aby) (op := 0x39) rfl rfl rfl (by decide)
theorem andAbx (base : Addr) : Statement (.andAbx base) :=
  of_mode_opcode (m := .abx) (op := 0x3D) rfl rfl rfl (by decide)
theorem rolAbx (base : Addr) : Statement (.rolAbx base) :=
  of_mode_opcode (m := .abx) (op := 0x3E) rfl rfl rfl (by decide)
theorem rti : Statement .rti :=
  of_mode_opcode (m := .imp) (op := 0x40) rfl rfl rfl (by decide)
theorem eorIzx (zp : Byte) : Statement (.eorIzx zp) :=
  of_mode_opcode (m := .izx) (op := 0x41) rfl rfl rfl (by decide)
theorem eorZp (zp : Byte) : Statement (.eorZp zp) :=
  of_mode_opcode (m := .zp) (op := 0x45) rfl rfl rfl (by decide)
theorem lsrZp (zp : Byte) : Statement (.lsrZp zp) :=
  of_mode_opcode (m := .zp) (op := 0x46) rfl rfl rfl (by decide)
theorem pha : Statement .pha :=
  of_mode_opcode (m := .imp) (op := 0x48) rfl rfl rfl (by decide)
theorem eorImm (value : Byte) : Statement (.eorImm value) :=
  of_mode_opcode (m := .imm) (op := 0x49) rfl rfl rfl (by decide)
theorem lsrAcc : Statement .lsrAcc :=
  of_mode_opcode (m := .acc) (op := 0x4A) rfl rfl rfl (by decide)
theorem jmpAbs (addr : Addr) : Statement (.jmpAbs addr) :=
  of_mode_opcode (m := .abs) (op := 0x4C) rfl rfl rfl (by decide)
theorem eorAbs (addr : Addr) : Statement (.eorAbs addr) :=
  of_mode_opcode (m := .abs) (op := 0x4D) rfl rfl rfl (by decide)
theorem lsrAbs (addr : Addr) : Statement (.lsrAbs addr) :=
  of_mode_opcode (m := .abs) (op := 0x4E) rfl rfl rfl (by decide)
theorem bvc (disp : Byte) : Statement (.bvc disp) :=
  of_mode_opcode (m := .rel) (op := 0x50) rfl rfl rfl (by decide)
theorem eorIzy (zp : Byte) : Statement (.eorIzy zp) :=
  of_mode_opcode (m := .izy) (op := 0x51) rfl rfl rfl (by decide)
theorem eorZpx (zp : Byte) : Statement (.eorZpx zp) :=
  of_mode_opcode (m := .zpx) (op := 0x55) rfl rfl rfl (by decide)
theorem lsrZpx (zp : Byte) : Statement (.lsrZpx zp) :=
  of_mode_opcode (m := .zpx) (op := 0x56) rfl rfl rfl (by decide)
theorem cli : Statement .cli :=
  of_mode_opcode (m := .imp) (op := 0x58) rfl rfl rfl (by decide)
theorem eorAby (base : Addr) : Statement (.eorAby base) :=
  of_mode_opcode (m := .aby) (op := 0x59) rfl rfl rfl (by decide)
theorem eorAbx (base : Addr) : Statement (.eorAbx base) :=
  of_mode_opcode (m := .abx) (op := 0x5D) rfl rfl rfl (by decide)
theorem lsrAbx (base : Addr) : Statement (.lsrAbx base) :=
  of_mode_opcode (m := .abx) (op := 0x5E) rfl rfl rfl (by decide)
theorem rts : Statement .rts :=
  of_mode_opcode (m := .imp) (op := 0x60) rfl rfl rfl (by decide)
theorem adcIzx (zp : Byte) : Statement (.adcIzx zp) :=
  of_mode_opcode (m := .izx) (op := 0x61) rfl rfl rfl (by decide)
theorem adcZp (zp : Byte) : Statement (.adcZp zp) :=
  of_mode_opcode (m := .zp) (op := 0x65) rfl rfl rfl (by decide)
theorem rorZp (zp : Byte) : Statement (.rorZp zp) :=
  of_mode_opcode (m := .zp) (op := 0x66) rfl rfl rfl (by decide)
theorem pla : Statement .pla :=
  of_mode_opcode (m := .imp) (op := 0x68) rfl rfl rfl (by decide)
theorem adcImm (value : Byte) : Statement (.adcImm value) :=
  of_mode_opcode (m := .imm) (op := 0x69) rfl rfl rfl (by decide)
theorem rorAcc : Statement .rorAcc :=
  of_mode_opcode (m := .acc) (op := 0x6A) rfl rfl rfl (by decide)
theorem jmpInd (ptr : Addr) : Statement (.jmpInd ptr) :=
  of_mode_opcode (m := .ind) (op := 0x6C) rfl rfl rfl (by decide)
theorem adcAbs (addr : Addr) : Statement (.adcAbs addr) :=
  of_mode_opcode (m := .abs) (op := 0x6D) rfl rfl rfl (by decide)
theorem rorAbs (addr : Addr) : Statement (.rorAbs addr) :=
  of_mode_opcode (m := .abs) (op := 0x6E) rfl rfl rfl (by decide)
theorem bvs (disp : Byte) : Statement (.bvs disp) :=
  of_mode_opcode (m := .rel) (op := 0x70) rfl rfl rfl (by decide)
theorem adcIzy (zp : Byte) : Statement (.adcIzy zp) :=
  of_mode_opcode (m := .izy) (op := 0x71) rfl rfl rfl (by decide)
theorem adcZpx (zp : Byte) : Statement (.adcZpx zp) :=
  of_mode_opcode (m := .zpx) (op := 0x75) rfl rfl rfl (by decide)
theorem rorZpx (zp : Byte) : Statement (.rorZpx zp) :=
  of_mode_opcode (m := .zpx) (op := 0x76) rfl rfl rfl (by decide)
theorem sei : Statement .sei :=
  of_mode_opcode (m := .imp) (op := 0x78) rfl rfl rfl (by decide)
theorem adcAby (base : Addr) : Statement (.adcAby base) :=
  of_mode_opcode (m := .aby) (op := 0x79) rfl rfl rfl (by decide)
theorem adcAbx (base : Addr) : Statement (.adcAbx base) :=
  of_mode_opcode (m := .abx) (op := 0x7D) rfl rfl rfl (by decide)
theorem rorAbx (base : Addr) : Statement (.rorAbx base) :=
  of_mode_opcode (m := .abx) (op := 0x7E) rfl rfl rfl (by decide)
theorem staIzx (zp : Byte) : Statement (.staIzx zp) :=
  of_mode_opcode (m := .izx) (op := 0x81) rfl rfl rfl (by decide)
theorem styZp (zp : Byte) : Statement (.styZp zp) :=
  of_mode_opcode (m := .zp) (op := 0x84) rfl rfl rfl (by decide)
theorem staZp (zp : Byte) : Statement (.staZp zp) :=
  of_mode_opcode (m := .zp) (op := 0x85) rfl rfl rfl (by decide)
theorem stxZp (zp : Byte) : Statement (.stxZp zp) :=
  of_mode_opcode (m := .zp) (op := 0x86) rfl rfl rfl (by decide)
theorem dey : Statement .dey :=
  of_mode_opcode (m := .imp) (op := 0x88) rfl rfl rfl (by decide)
theorem txa : Statement .txa :=
  of_mode_opcode (m := .imp) (op := 0x8A) rfl rfl rfl (by decide)
theorem styAbs (addr : Addr) : Statement (.styAbs addr) :=
  of_mode_opcode (m := .abs) (op := 0x8C) rfl rfl rfl (by decide)
theorem staAbs (addr : Addr) : Statement (.staAbs addr) :=
  of_mode_opcode (m := .abs) (op := 0x8D) rfl rfl rfl (by decide)
theorem stxAbs (addr : Addr) : Statement (.stxAbs addr) :=
  of_mode_opcode (m := .abs) (op := 0x8E) rfl rfl rfl (by decide)
theorem bcc (disp : Byte) : Statement (.bcc disp) :=
  of_mode_opcode (m := .rel) (op := 0x90) rfl rfl rfl (by decide)
theorem staIzy (zp : Byte) : Statement (.staIzy zp) :=
  of_mode_opcode (m := .izy) (op := 0x91) rfl rfl rfl (by decide)
theorem styZpx (zp : Byte) : Statement (.styZpx zp) :=
  of_mode_opcode (m := .zpx) (op := 0x94) rfl rfl rfl (by decide)
theorem staZpx (zp : Byte) : Statement (.staZpx zp) :=
  of_mode_opcode (m := .zpx) (op := 0x95) rfl rfl rfl (by decide)
theorem stxZpy (zp : Byte) : Statement (.stxZpy zp) :=
  of_mode_opcode (m := .zpy) (op := 0x96) rfl rfl rfl (by decide)
theorem tya : Statement .tya :=
  of_mode_opcode (m := .imp) (op := 0x98) rfl rfl rfl (by decide)
theorem staAby (base : Addr) : Statement (.staAby base) :=
  of_mode_opcode (m := .aby) (op := 0x99) rfl rfl rfl (by decide)
theorem txs : Statement .txs :=
  of_mode_opcode (m := .imp) (op := 0x9A) rfl rfl rfl (by decide)
theorem staAbx (base : Addr) : Statement (.staAbx base) :=
  of_mode_opcode (m := .abx) (op := 0x9D) rfl rfl rfl (by decide)
theorem ldyImm (value : Byte) : Statement (.ldyImm value) :=
  of_mode_opcode (m := .imm) (op := 0xA0) rfl rfl rfl (by decide)
theorem ldaIzx (zp : Byte) : Statement (.ldaIzx zp) :=
  of_mode_opcode (m := .izx) (op := 0xA1) rfl rfl rfl (by decide)
theorem ldxImm (value : Byte) : Statement (.ldxImm value) :=
  of_mode_opcode (m := .imm) (op := 0xA2) rfl rfl rfl (by decide)
theorem ldyZp (zp : Byte) : Statement (.ldyZp zp) :=
  of_mode_opcode (m := .zp) (op := 0xA4) rfl rfl rfl (by decide)
theorem ldaZp (zp : Byte) : Statement (.ldaZp zp) :=
  of_mode_opcode (m := .zp) (op := 0xA5) rfl rfl rfl (by decide)
theorem ldxZp (zp : Byte) : Statement (.ldxZp zp) :=
  of_mode_opcode (m := .zp) (op := 0xA6) rfl rfl rfl (by decide)
theorem tay : Statement .tay :=
  of_mode_opcode (m := .imp) (op := 0xA8) rfl rfl rfl (by decide)
theorem ldaImm (value : Byte) : Statement (.ldaImm value) :=
  of_mode_opcode (m := .imm) (op := 0xA9) rfl rfl rfl (by decide)
theorem tax : Statement .tax :=
  of_mode_opcode (m := .imp) (op := 0xAA) rfl rfl rfl (by decide)
theorem ldyAbs (addr : Addr) : Statement (.ldyAbs addr) :=
  of_mode_opcode (m := .abs) (op := 0xAC) rfl rfl rfl (by decide)
theorem ldaAbs (addr : Addr) : Statement (.ldaAbs addr) :=
  of_mode_opcode (m := .abs) (op := 0xAD) rfl rfl rfl (by decide)
theorem ldxAbs (addr : Addr) : Statement (.ldxAbs addr) :=
  of_mode_opcode (m := .abs) (op := 0xAE) rfl rfl rfl (by decide)
theorem bcs (disp : Byte) : Statement (.bcs disp) :=
  of_mode_opcode (m := .rel) (op := 0xB0) rfl rfl rfl (by decide)
theorem ldaIzy (zp : Byte) : Statement (.ldaIzy zp) :=
  of_mode_opcode (m := .izy) (op := 0xB1) rfl rfl rfl (by decide)
theorem ldyZpx (zp : Byte) : Statement (.ldyZpx zp) :=
  of_mode_opcode (m := .zpx) (op := 0xB4) rfl rfl rfl (by decide)
theorem ldaZpx (zp : Byte) : Statement (.ldaZpx zp) :=
  of_mode_opcode (m := .zpx) (op := 0xB5) rfl rfl rfl (by decide)
theorem ldxZpy (zp : Byte) : Statement (.ldxZpy zp) :=
  of_mode_opcode (m := .zpy) (op := 0xB6) rfl rfl rfl (by decide)
theorem clv : Statement .clv :=
  of_mode_opcode (m := .imp) (op := 0xB8) rfl rfl rfl (by decide)
theorem ldaAby (base : Addr) : Statement (.ldaAby base) :=
  of_mode_opcode (m := .aby) (op := 0xB9) rfl rfl rfl (by decide)
theorem tsx : Statement .tsx :=
  of_mode_opcode (m := .imp) (op := 0xBA) rfl rfl rfl (by decide)
theorem ldyAbx (base : Addr) : Statement (.ldyAbx base) :=
  of_mode_opcode (m := .abx) (op := 0xBC) rfl rfl rfl (by decide)
theorem ldaAbx (base : Addr) : Statement (.ldaAbx base) :=
  of_mode_opcode (m := .abx) (op := 0xBD) rfl rfl rfl (by decide)
theorem ldxAby (base : Addr) : Statement (.ldxAby base) :=
  of_mode_opcode (m := .aby) (op := 0xBE) rfl rfl rfl (by decide)
theorem cpyImm (value : Byte) : Statement (.cpyImm value) :=
  of_mode_opcode (m := .imm) (op := 0xC0) rfl rfl rfl (by decide)
theorem cmpIzx (zp : Byte) : Statement (.cmpIzx zp) :=
  of_mode_opcode (m := .izx) (op := 0xC1) rfl rfl rfl (by decide)
theorem cpyZp (zp : Byte) : Statement (.cpyZp zp) :=
  of_mode_opcode (m := .zp) (op := 0xC4) rfl rfl rfl (by decide)
theorem cmpZp (zp : Byte) : Statement (.cmpZp zp) :=
  of_mode_opcode (m := .zp) (op := 0xC5) rfl rfl rfl (by decide)
theorem decZp (zp : Byte) : Statement (.decZp zp) :=
  of_mode_opcode (m := .zp) (op := 0xC6) rfl rfl rfl (by decide)
theorem iny : Statement .iny :=
  of_mode_opcode (m := .imp) (op := 0xC8) rfl rfl rfl (by decide)
theorem cmpImm (value : Byte) : Statement (.cmpImm value) :=
  of_mode_opcode (m := .imm) (op := 0xC9) rfl rfl rfl (by decide)
theorem dex : Statement .dex :=
  of_mode_opcode (m := .imp) (op := 0xCA) rfl rfl rfl (by decide)
theorem cpyAbs (addr : Addr) : Statement (.cpyAbs addr) :=
  of_mode_opcode (m := .abs) (op := 0xCC) rfl rfl rfl (by decide)
theorem cmpAbs (addr : Addr) : Statement (.cmpAbs addr) :=
  of_mode_opcode (m := .abs) (op := 0xCD) rfl rfl rfl (by decide)
theorem decAbs (addr : Addr) : Statement (.decAbs addr) :=
  of_mode_opcode (m := .abs) (op := 0xCE) rfl rfl rfl (by decide)
theorem bne (disp : Byte) : Statement (.bne disp) :=
  of_mode_opcode (m := .rel) (op := 0xD0) rfl rfl rfl (by decide)
theorem cmpIzy (zp : Byte) : Statement (.cmpIzy zp) :=
  of_mode_opcode (m := .izy) (op := 0xD1) rfl rfl rfl (by decide)
theorem cmpZpx (zp : Byte) : Statement (.cmpZpx zp) :=
  of_mode_opcode (m := .zpx) (op := 0xD5) rfl rfl rfl (by decide)
theorem decZpx (zp : Byte) : Statement (.decZpx zp) :=
  of_mode_opcode (m := .zpx) (op := 0xD6) rfl rfl rfl (by decide)
theorem cld : Statement .cld :=
  of_mode_opcode (m := .imp) (op := 0xD8) rfl rfl rfl (by decide)
theorem cmpAby (base : Addr) : Statement (.cmpAby base) :=
  of_mode_opcode (m := .aby) (op := 0xD9) rfl rfl rfl (by decide)
theorem cmpAbx (base : Addr) : Statement (.cmpAbx base) :=
  of_mode_opcode (m := .abx) (op := 0xDD) rfl rfl rfl (by decide)
theorem decAbx (base : Addr) : Statement (.decAbx base) :=
  of_mode_opcode (m := .abx) (op := 0xDE) rfl rfl rfl (by decide)
theorem cpxImm (value : Byte) : Statement (.cpxImm value) :=
  of_mode_opcode (m := .imm) (op := 0xE0) rfl rfl rfl (by decide)
theorem sbcIzx (zp : Byte) : Statement (.sbcIzx zp) :=
  of_mode_opcode (m := .izx) (op := 0xE1) rfl rfl rfl (by decide)
theorem cpxZp (zp : Byte) : Statement (.cpxZp zp) :=
  of_mode_opcode (m := .zp) (op := 0xE4) rfl rfl rfl (by decide)
theorem sbcZp (zp : Byte) : Statement (.sbcZp zp) :=
  of_mode_opcode (m := .zp) (op := 0xE5) rfl rfl rfl (by decide)
theorem incZp (zp : Byte) : Statement (.incZp zp) :=
  of_mode_opcode (m := .zp) (op := 0xE6) rfl rfl rfl (by decide)
theorem inx : Statement .inx :=
  of_mode_opcode (m := .imp) (op := 0xE8) rfl rfl rfl (by decide)
theorem sbcImm (value : Byte) : Statement (.sbcImm value) :=
  of_mode_opcode (m := .imm) (op := 0xE9) rfl rfl rfl (by decide)
theorem nop : Statement .nop :=
  of_mode_opcode (m := .imp) (op := 0xEA) rfl rfl rfl (by decide)
theorem cpxAbs (addr : Addr) : Statement (.cpxAbs addr) :=
  of_mode_opcode (m := .abs) (op := 0xEC) rfl rfl rfl (by decide)
theorem sbcAbs (addr : Addr) : Statement (.sbcAbs addr) :=
  of_mode_opcode (m := .abs) (op := 0xED) rfl rfl rfl (by decide)
theorem incAbs (addr : Addr) : Statement (.incAbs addr) :=
  of_mode_opcode (m := .abs) (op := 0xEE) rfl rfl rfl (by decide)
theorem beq (disp : Byte) : Statement (.beq disp) :=
  of_mode_opcode (m := .rel) (op := 0xF0) rfl rfl rfl (by decide)
theorem sbcIzy (zp : Byte) : Statement (.sbcIzy zp) :=
  of_mode_opcode (m := .izy) (op := 0xF1) rfl rfl rfl (by decide)
theorem sbcZpx (zp : Byte) : Statement (.sbcZpx zp) :=
  of_mode_opcode (m := .zpx) (op := 0xF5) rfl rfl rfl (by decide)
theorem incZpx (zp : Byte) : Statement (.incZpx zp) :=
  of_mode_opcode (m := .zpx) (op := 0xF6) rfl rfl rfl (by decide)
theorem sed : Statement .sed :=
  of_mode_opcode (m := .imp) (op := 0xF8) rfl rfl rfl (by decide)
theorem sbcAby (base : Addr) : Statement (.sbcAby base) :=
  of_mode_opcode (m := .aby) (op := 0xF9) rfl rfl rfl (by decide)
theorem sbcAbx (base : Addr) : Statement (.sbcAbx base) :=
  of_mode_opcode (m := .abx) (op := 0xFD) rfl rfl rfl (by decide)
theorem incAbx (base : Addr) : Statement (.incAbx base) :=
  of_mode_opcode (m := .abx) (op := 0xFE) rfl rfl rfl (by decide)

end Sys2Proof.Laws.Encoding
end

