-- ==== Sys2Proof/Laws/Rows.lean ====
section
/-! SUPPORT. The opcode table row by row: mnemonic, mode, opcode, operand bytes and meaning of every instruction, so that no
proof unfolds a definition over all instructions. -/

namespace Sys2Proof.Machine

@[simp] theorem brk_row :
    Instr.brk.mnemonic = .brk ∧ Instr.brk.mode = .imp ∧ opcode .brk = 0x00 ∧
      operandBytes .brk = [] ∧ ∀ s, exec .brk s = execBrk s :=
  ⟨rfl, rfl, rfl, rfl, fun _ => rfl⟩

@[simp] theorem oraIzx_row (v : Byte) :
    (Instr.oraIzx v).mnemonic = .ora ∧ (Instr.oraIzx v).mode = .izx ∧ opcode (.oraIzx v) = 0x01 ∧
      operandBytes (.oraIzx v) = [v] ∧ ∀ s, exec (.oraIzx v) s = execOraIzx v s :=
  ⟨rfl, rfl, rfl, rfl, fun _ => rfl⟩

@[simp] theorem oraZp_row (v : Byte) :
    (Instr.oraZp v).mnemonic = .ora ∧ (Instr.oraZp v).mode = .zp ∧ opcode (.oraZp v) = 0x05 ∧
      operandBytes (.oraZp v) = [v] ∧ ∀ s, exec (.oraZp v) s = execOraZp v s :=
  ⟨rfl, rfl, rfl, rfl, fun _ => rfl⟩

@[simp] theorem aslZp_row (v : Byte) :
    (Instr.aslZp v).mnemonic = .asl ∧ (Instr.aslZp v).mode = .zp ∧ opcode (.aslZp v) = 0x06 ∧
      operandBytes (.aslZp v) = [v] ∧ ∀ s, exec (.aslZp v) s = execAslZp v s :=
  ⟨rfl, rfl, rfl, rfl, fun _ => rfl⟩

@[simp] theorem php_row :
    Instr.php.mnemonic = .php ∧ Instr.php.mode = .imp ∧ opcode .php = 0x08 ∧
      operandBytes .php = [] ∧ ∀ s, exec .php s = execPhp s :=
  ⟨rfl, rfl, rfl, rfl, fun _ => rfl⟩

@[simp] theorem oraImm_row (v : Byte) :
    (Instr.oraImm v).mnemonic = .ora ∧ (Instr.oraImm v).mode = .imm ∧ opcode (.oraImm v) = 0x09 ∧
      operandBytes (.oraImm v) = [v] ∧ ∀ s, exec (.oraImm v) s = execOraImm v s :=
  ⟨rfl, rfl, rfl, rfl, fun _ => rfl⟩

@[simp] theorem aslAcc_row :
    Instr.aslAcc.mnemonic = .asl ∧ Instr.aslAcc.mode = .acc ∧ opcode .aslAcc = 0x0A ∧
      operandBytes .aslAcc = [] ∧ ∀ s, exec .aslAcc s = execAslAcc s :=
  ⟨rfl, rfl, rfl, rfl, fun _ => rfl⟩

@[simp] theorem oraAbs_row (v : Addr) :
    (Instr.oraAbs v).mnemonic = .ora ∧ (Instr.oraAbs v).mode = .abs ∧ opcode (.oraAbs v) = 0x0D ∧
      operandBytes (.oraAbs v) = [lo8 v, hi8 v] ∧ ∀ s, exec (.oraAbs v) s = execOraAbs v s :=
  ⟨rfl, rfl, rfl, rfl, fun _ => rfl⟩

@[simp] theorem aslAbs_row (v : Addr) :
    (Instr.aslAbs v).mnemonic = .asl ∧ (Instr.aslAbs v).mode = .abs ∧ opcode (.aslAbs v) = 0x0E ∧
      operandBytes (.aslAbs v) = [lo8 v, hi8 v] ∧ ∀ s, exec (.aslAbs v) s = execAslAbs v s :=
  ⟨rfl, rfl, rfl, rfl, fun _ => rfl⟩

@[simp] theorem bpl_row (v : Byte) :
    (Instr.bpl v).mnemonic = .bpl ∧ (Instr.bpl v).mode = .rel ∧ opcode (.bpl v) = 0x10 ∧
      operandBytes (.bpl v) = [v] ∧ ∀ s, exec (.bpl v) s = execBpl v s :=
  ⟨rfl, rfl, rfl, rfl, fun _ => rfl⟩

@[simp] theorem oraIzy_row (v : Byte) :
    (Instr.oraIzy v).mnemonic = .ora ∧ (Instr.oraIzy v).mode = .izy ∧ opcode (.oraIzy v) = 0x11 ∧
      operandBytes (.oraIzy v) = [v] ∧ ∀ s, exec (.oraIzy v) s = execOraIzy v s :=
  ⟨rfl, rfl, rfl, rfl, fun _ => rfl⟩

@[simp] theorem oraZpx_row (v : Byte) :
    (Instr.oraZpx v).mnemonic = .ora ∧ (Instr.oraZpx v).mode = .zpx ∧ opcode (.oraZpx v) = 0x15 ∧
      operandBytes (.oraZpx v) = [v] ∧ ∀ s, exec (.oraZpx v) s = execOraZpx v s :=
  ⟨rfl, rfl, rfl, rfl, fun _ => rfl⟩

@[simp] theorem aslZpx_row (v : Byte) :
    (Instr.aslZpx v).mnemonic = .asl ∧ (Instr.aslZpx v).mode = .zpx ∧ opcode (.aslZpx v) = 0x16 ∧
      operandBytes (.aslZpx v) = [v] ∧ ∀ s, exec (.aslZpx v) s = execAslZpx v s :=
  ⟨rfl, rfl, rfl, rfl, fun _ => rfl⟩

@[simp] theorem clc_row :
    Instr.clc.mnemonic = .clc ∧ Instr.clc.mode = .imp ∧ opcode .clc = 0x18 ∧
      operandBytes .clc = [] ∧ ∀ s, exec .clc s = execClc s :=
  ⟨rfl, rfl, rfl, rfl, fun _ => rfl⟩

@[simp] theorem oraAby_row (v : Addr) :
    (Instr.oraAby v).mnemonic = .ora ∧ (Instr.oraAby v).mode = .aby ∧ opcode (.oraAby v) = 0x19 ∧
      operandBytes (.oraAby v) = [lo8 v, hi8 v] ∧ ∀ s, exec (.oraAby v) s = execOraAby v s :=
  ⟨rfl, rfl, rfl, rfl, fun _ => rfl⟩

@[simp] theorem oraAbx_row (v : Addr) :
    (Instr.oraAbx v).mnemonic = .ora ∧ (Instr.oraAbx v).mode = .abx ∧ opcode (.oraAbx v) = 0x1D ∧
      operandBytes (.oraAbx v) = [lo8 v, hi8 v] ∧ ∀ s, exec (.oraAbx v) s = execOraAbx v s :=
  ⟨rfl, rfl, rfl, rfl, fun _ => rfl⟩

@[simp] theorem aslAbx_row (v : Addr) :
    (Instr.aslAbx v).mnemonic = .asl ∧ (Instr.aslAbx v).mode = .abx ∧ opcode (.aslAbx v) = 0x1E ∧
      operandBytes (.aslAbx v) = [lo8 v, hi8 v] ∧ ∀ s, exec (.aslAbx v) s = execAslAbx v s :=
  ⟨rfl, rfl, rfl, rfl, fun _ => rfl⟩

@[simp] theorem jsr_row (v : Addr) :
    (Instr.jsr v).mnemonic = .jsr ∧ (Instr.jsr v).mode = .abs ∧ opcode (.jsr v) = 0x20 ∧
      operandBytes (.jsr v) = [lo8 v, hi8 v] ∧ ∀ s, exec (.jsr v) s = execJsr v s :=
  ⟨rfl, rfl, rfl, rfl, fun _ => rfl⟩

@[simp] theorem andIzx_row (v : Byte) :
    (Instr.andIzx v).mnemonic = .and ∧ (Instr.andIzx v).mode = .izx ∧ opcode (.andIzx v) = 0x21 ∧
      operandBytes (.andIzx v) = [v] ∧ ∀ s, exec (.andIzx v) s = execAndIzx v s :=
  ⟨rfl, rfl, rfl, rfl, fun _ => rfl⟩

@[simp] theorem bitZp_row (v : Byte) :
    (Instr.bitZp v).mnemonic = .bit ∧ (Instr.bitZp v).mode = .zp ∧ opcode (.bitZp v) = 0x24 ∧
      operandBytes (.bitZp v) = [v] ∧ ∀ s, exec (.bitZp v) s = execBitZp v s :=
  ⟨rfl, rfl, rfl, rfl, fun _ => rfl⟩

@[simp] theorem andZp_row (v : Byte) :
    (Instr.andZp v).mnemonic = .and ∧ (Instr.andZp v).mode = .zp ∧ opcode (.andZp v) = 0x25 ∧
      operandBytes (.andZp v) = [v] ∧ ∀ s, exec (.andZp v) s = execAndZp v s :=
  ⟨rfl, rfl, rfl, rfl, fun _ => rfl⟩

@[simp] theorem rolZp_row (v : Byte) :
    (Instr.rolZp v).mnemonic = .rol ∧ (Instr.rolZp v).mode = .zp ∧ opcode (.rolZp v) = 0x26 ∧
      operandBytes (.rolZp v) = [v] ∧ ∀ s, exec (.rolZp v) s = execRolZp v s :=
  ⟨rfl, rfl, rfl, rfl, fun _ => rfl⟩

@[simp] theorem plp_row :
    Instr.plp.mnemonic = .plp ∧ Instr.plp.mode = .imp ∧ opcode .plp = 0x28 ∧
      operandBytes .plp = [] ∧ ∀ s, exec .plp s = execPlp s :=
  ⟨rfl, rfl, rfl, rfl, fun _ => rfl⟩

@[simp] theorem andImm_row (v : Byte) :
    (Instr.andImm v).mnemonic = .and ∧ (Instr.andImm v).mode = .imm ∧ opcode (.andImm v) = 0x29 ∧
      operandBytes (.andImm v) = [v] ∧ ∀ s, exec (.andImm v) s = execAndImm v s :=
  ⟨rfl, rfl, rfl, rfl, fun _ => rfl⟩

@[simp] theorem rolAcc_row :
    Instr.rolAcc.mnemonic = .rol ∧ Instr.rolAcc.mode = .acc ∧ opcode .rolAcc = 0x2A ∧
      operandBytes .rolAcc = [] ∧ ∀ s, exec .rolAcc s = execRolAcc s :=
  ⟨rfl, rfl, rfl, rfl, fun _ => rfl⟩

@[simp] theorem bitAbs_row (v : Addr) :
    (Instr.bitAbs v).mnemonic = .bit ∧ (Instr.bitAbs v).mode = .abs ∧ opcode (.bitAbs v) = 0x2C ∧
      operandBytes (.bitAbs v) = [lo8 v, hi8 v] ∧ ∀ s, exec (.bitAbs v) s = execBitAbs v s :=
  ⟨rfl, rfl, rfl, rfl, fun _ => rfl⟩

@[simp] theorem andAbs_row (v : Addr) :
    (Instr.andAbs v).mnemonic = .and ∧ (Instr.andAbs v).mode = .abs ∧ opcode (.andAbs v) = 0x2D ∧
      operandBytes (.andAbs v) = [lo8 v, hi8 v] ∧ ∀ s, exec (.andAbs v) s = execAndAbs v s :=
  ⟨rfl, rfl, rfl, rfl, fun _ => rfl⟩

@[simp] theorem rolAbs_row (v : Addr) :
    (Instr.rolAbs v).mnemonic = .rol ∧ (Instr.rolAbs v).mode = .abs ∧ opcode (.rolAbs v) = 0x2E ∧
      operandBytes (.rolAbs v) = [lo8 v, hi8 v] ∧ ∀ s, exec (.rolAbs v) s = execRolAbs v s :=
  ⟨rfl, rfl, rfl, rfl, fun _ => rfl⟩

@[simp] theorem bmi_row (v : Byte) :
    (Instr.bmi v).mnemonic = .bmi ∧ (Instr.bmi v).mode = .rel ∧ opcode (.bmi v) = 0x30 ∧
      operandBytes (.bmi v) = [v] ∧ ∀ s, exec (.bmi v) s = execBmi v s :=
  ⟨rfl, rfl, rfl, rfl, fun _ => rfl⟩

@[simp] theorem andIzy_row (v : Byte) :
    (Instr.andIzy v).mnemonic = .and ∧ (Instr.andIzy v).mode = .izy ∧ opcode (.andIzy v) = 0x31 ∧
      operandBytes (.andIzy v) = [v] ∧ ∀ s, exec (.andIzy v) s = execAndIzy v s :=
  ⟨rfl, rfl, rfl, rfl, fun _ => rfl⟩

@[simp] theorem andZpx_row (v : Byte) :
    (Instr.andZpx v).mnemonic = .and ∧ (Instr.andZpx v).mode = .zpx ∧ opcode (.andZpx v) = 0x35 ∧
      operandBytes (.andZpx v) = [v] ∧ ∀ s, exec (.andZpx v) s = execAndZpx v s :=
  ⟨rfl, rfl, rfl, rfl, fun _ => rfl⟩

@[simp] theorem rolZpx_row (v : Byte) :
    (Instr.rolZpx v).mnemonic = .rol ∧ (Instr.rolZpx v).mode = .zpx ∧ opcode (.rolZpx v) = 0x36 ∧
      operandBytes (.rolZpx v) = [v] ∧ ∀ s, exec (.rolZpx v) s = execRolZpx v s :=
  ⟨rfl, rfl, rfl, rfl, fun _ => rfl⟩

@[simp] theorem sec_row :
    Instr.sec.mnemonic = .sec ∧ Instr.sec.mode = .imp ∧ opcode .sec = 0x38 ∧
      operandBytes .sec = [] ∧ ∀ s, exec .sec s = execSec s :=
  ⟨rfl, rfl, rfl, rfl, fun _ => rfl⟩

@[simp] theorem andAby_row (v : Addr) :
    (Instr.andAby v).mnemonic = .and ∧ (Instr.andAby v).mode = .aby ∧ opcode (.andAby v) = 0x39 ∧
      operandBytes (.andAby v) = [lo8 v, hi8 v] ∧ ∀ s, exec (.andAby v) s = execAndAby v s :=
  ⟨rfl, rfl, rfl, rfl, fun _ => rfl⟩

@[simp] theorem andAbx_row (v : Addr) :
    (Instr.andAbx v).mnemonic = .and ∧ (Instr.andAbx v).mode = .abx ∧ opcode (.andAbx v) = 0x3D ∧
      operandBytes (.andAbx v) = [lo8 v, hi8 v] ∧ ∀ s, exec (.andAbx v) s = execAndAbx v s :=
  ⟨rfl, rfl, rfl, rfl, fun _ => rfl⟩

@[simp] theorem rolAbx_row (v : Addr) :
    (Instr.rolAbx v).mnemonic = .rol ∧ (Instr.rolAbx v).mode = .abx ∧ opcode (.rolAbx v) = 0x3E ∧
      operandBytes (.rolAbx v) = [lo8 v, hi8 v] ∧ ∀ s, exec (.rolAbx v) s = execRolAbx v s :=
  ⟨rfl, rfl, rfl, rfl, fun _ => rfl⟩

@[simp] theorem rti_row :
    Instr.rti.mnemonic = .rti ∧ Instr.rti.mode = .imp ∧ opcode .rti = 0x40 ∧
      operandBytes .rti = [] ∧ ∀ s, exec .rti s = execRti s :=
  ⟨rfl, rfl, rfl, rfl, fun _ => rfl⟩

@[simp] theorem eorIzx_row (v : Byte) :
    (Instr.eorIzx v).mnemonic = .eor ∧ (Instr.eorIzx v).mode = .izx ∧ opcode (.eorIzx v) = 0x41 ∧
      operandBytes (.eorIzx v) = [v] ∧ ∀ s, exec (.eorIzx v) s = execEorIzx v s :=
  ⟨rfl, rfl, rfl, rfl, fun _ => rfl⟩

@[simp] theorem eorZp_row (v : Byte) :
    (Instr.eorZp v).mnemonic = .eor ∧ (Instr.eorZp v).mode = .zp ∧ opcode (.eorZp v) = 0x45 ∧
      operandBytes (.eorZp v) = [v] ∧ ∀ s, exec (.eorZp v) s = execEorZp v s :=
  ⟨rfl, rfl, rfl, rfl, fun _ => rfl⟩

@[simp] theorem lsrZp_row (v : Byte) :
    (Instr.lsrZp v).mnemonic = .lsr ∧ (Instr.lsrZp v).mode = .zp ∧ opcode (.lsrZp v) = 0x46 ∧
      operandBytes (.lsrZp v) = [v] ∧ ∀ s, exec (.lsrZp v) s = execLsrZp v s :=
  ⟨rfl, rfl, rfl, rfl, fun _ => rfl⟩

@[simp] theorem pha_row :
    Instr.pha.mnemonic = .pha ∧ Instr.pha.mode = .imp ∧ opcode .pha = 0x48 ∧
      operandBytes .pha = [] ∧ ∀ s, exec .pha s = execPha s :=
  ⟨rfl, rfl, rfl, rfl, fun _ => rfl⟩

@[simp] theorem eorImm_row (v : Byte) :
    (Instr.eorImm v).mnemonic = .eor ∧ (Instr.eorImm v).mode = .imm ∧ opcode (.eorImm v) = 0x49 ∧
      operandBytes (.eorImm v) = [v] ∧ ∀ s, exec (.eorImm v) s = execEorImm v s :=
  ⟨rfl, rfl, rfl, rfl, fun _ => rfl⟩

@[simp] theorem lsrAcc_row :
    Instr.lsrAcc.mnemonic = .lsr ∧ Instr.lsrAcc.mode = .acc ∧ opcode .lsrAcc = 0x4A ∧
      operandBytes .lsrAcc = [] ∧ ∀ s, exec .lsrAcc s = execLsrAcc s :=
  ⟨rfl, rfl, rfl, rfl, fun _ => rfl⟩

@[simp] theorem jmpAbs_row (v : Addr) :
    (Instr.jmpAbs v).mnemonic = .jmp ∧ (Instr.jmpAbs v).mode = .abs ∧ opcode (.jmpAbs v) = 0x4C ∧
      operandBytes (.jmpAbs v) = [lo8 v, hi8 v] ∧ ∀ s, exec (.jmpAbs v) s = execJmpAbs v s :=
  ⟨rfl, rfl, rfl, rfl, fun _ => rfl⟩

@[simp] theorem eorAbs_row (v : Addr) :
    (Instr.eorAbs v).mnemonic = .eor ∧ (Instr.eorAbs v).mode = .abs ∧ opcode (.eorAbs v) = 0x4D ∧
      operandBytes (.eorAbs v) = [lo8 v, hi8 v] ∧ ∀ s, exec (.eorAbs v) s = execEorAbs v s :=
  ⟨rfl, rfl, rfl, rfl, fun _ => rfl⟩

@[simp] theorem lsrAbs_row (v : Addr) :
    (Instr.lsrAbs v).mnemonic = .lsr ∧ (Instr.lsrAbs v).mode = .abs ∧ opcode (.lsrAbs v) = 0x4E ∧
      operandBytes (.lsrAbs v) = [lo8 v, hi8 v] ∧ ∀ s, exec (.lsrAbs v) s = execLsrAbs v s :=
  ⟨rfl, rfl, rfl, rfl, fun _ => rfl⟩

@[simp] theorem bvc_row (v : Byte) :
    (Instr.bvc v).mnemonic = .bvc ∧ (Instr.bvc v).mode = .rel ∧ opcode (.bvc v) = 0x50 ∧
      operandBytes (.bvc v) = [v] ∧ ∀ s, exec (.bvc v) s = execBvc v s :=
  ⟨rfl, rfl, rfl, rfl, fun _ => rfl⟩

@[simp] theorem eorIzy_row (v : Byte) :
    (Instr.eorIzy v).mnemonic = .eor ∧ (Instr.eorIzy v).mode = .izy ∧ opcode (.eorIzy v) = 0x51 ∧
      operandBytes (.eorIzy v) = [v] ∧ ∀ s, exec (.eorIzy v) s = execEorIzy v s :=
  ⟨rfl, rfl, rfl, rfl, fun _ => rfl⟩

@[simp] theorem eorZpx_row (v : Byte) :
    (Instr.eorZpx v).mnemonic = .eor ∧ (Instr.eorZpx v).mode = .zpx ∧ opcode (.eorZpx v) = 0x55 ∧
      operandBytes (.eorZpx v) = [v] ∧ ∀ s, exec (.eorZpx v) s = execEorZpx v s :=
  ⟨rfl, rfl, rfl, rfl, fun _ => rfl⟩

@[simp] theorem lsrZpx_row (v : Byte) :
    (Instr.lsrZpx v).mnemonic = .lsr ∧ (Instr.lsrZpx v).mode = .zpx ∧ opcode (.lsrZpx v) = 0x56 ∧
      operandBytes (.lsrZpx v) = [v] ∧ ∀ s, exec (.lsrZpx v) s = execLsrZpx v s :=
  ⟨rfl, rfl, rfl, rfl, fun _ => rfl⟩

@[simp] theorem cli_row :
    Instr.cli.mnemonic = .cli ∧ Instr.cli.mode = .imp ∧ opcode .cli = 0x58 ∧
      operandBytes .cli = [] ∧ ∀ s, exec .cli s = execCli s :=
  ⟨rfl, rfl, rfl, rfl, fun _ => rfl⟩

@[simp] theorem eorAby_row (v : Addr) :
    (Instr.eorAby v).mnemonic = .eor ∧ (Instr.eorAby v).mode = .aby ∧ opcode (.eorAby v) = 0x59 ∧
      operandBytes (.eorAby v) = [lo8 v, hi8 v] ∧ ∀ s, exec (.eorAby v) s = execEorAby v s :=
  ⟨rfl, rfl, rfl, rfl, fun _ => rfl⟩

@[simp] theorem eorAbx_row (v : Addr) :
    (Instr.eorAbx v).mnemonic = .eor ∧ (Instr.eorAbx v).mode = .abx ∧ opcode (.eorAbx v) = 0x5D ∧
      operandBytes (.eorAbx v) = [lo8 v, hi8 v] ∧ ∀ s, exec (.eorAbx v) s = execEorAbx v s :=
  ⟨rfl, rfl, rfl, rfl, fun _ => rfl⟩

@[simp] theorem lsrAbx_row (v : Addr) :
    (Instr.lsrAbx v).mnemonic = .lsr ∧ (Instr.lsrAbx v).mode = .abx ∧ opcode (.lsrAbx v) = 0x5E ∧
      operandBytes (.lsrAbx v) = [lo8 v, hi8 v] ∧ ∀ s, exec (.lsrAbx v) s = execLsrAbx v s :=
  ⟨rfl, rfl, rfl, rfl, fun _ => rfl⟩

@[simp] theorem rts_row :
    Instr.rts.mnemonic = .rts ∧ Instr.rts.mode = .imp ∧ opcode .rts = 0x60 ∧
      operandBytes .rts = [] ∧ ∀ s, exec .rts s = execRts s :=
  ⟨rfl, rfl, rfl, rfl, fun _ => rfl⟩

@[simp] theorem adcIzx_row (v : Byte) :
    (Instr.adcIzx v).mnemonic = .adc ∧ (Instr.adcIzx v).mode = .izx ∧ opcode (.adcIzx v) = 0x61 ∧
      operandBytes (.adcIzx v) = [v] ∧ ∀ s, exec (.adcIzx v) s = execAdcIzx v s :=
  ⟨rfl, rfl, rfl, rfl, fun _ => rfl⟩

@[simp] theorem adcZp_row (v : Byte) :
    (Instr.adcZp v).mnemonic = .adc ∧ (Instr.adcZp v).mode = .zp ∧ opcode (.adcZp v) = 0x65 ∧
      operandBytes (.adcZp v) = [v] ∧ ∀ s, exec (.adcZp v) s = execAdcZp v s :=
  ⟨rfl, rfl, rfl, rfl, fun _ => rfl⟩

@[simp] theorem rorZp_row (v : Byte) :
    (Instr.rorZp v).mnemonic = .ror ∧ (Instr.rorZp v).mode = .zp ∧ opcode (.rorZp v) = 0x66 ∧
      operandBytes (.rorZp v) = [v] ∧ ∀ s, exec (.rorZp v) s = execRorZp v s :=
  ⟨rfl, rfl, rfl, rfl, fun _ => rfl⟩

@[simp] theorem pla_row :
    Instr.pla.mnemonic = .pla ∧ Instr.pla.mode = .imp ∧ opcode .pla = 0x68 ∧
      operandBytes .pla = [] ∧ ∀ s, exec .pla s = execPla s :=
  ⟨rfl, rfl, rfl, rfl, fun _ => rfl⟩

@[simp] theorem adcImm_row (v : Byte) :
    (Instr.adcImm v).mnemonic = .adc ∧ (Instr.adcImm v).mode = .imm ∧ opcode (.adcImm v) = 0x69 ∧
      operandBytes (.adcImm v) = [v] ∧ ∀ s, exec (.adcImm v) s = execAdcImm v s :=
  ⟨rfl, rfl, rfl, rfl, fun _ => rfl⟩

@[simp] theorem rorAcc_row :
    Instr.rorAcc.mnemonic = .ror ∧ Instr.rorAcc.mode = .acc ∧ opcode .rorAcc = 0x6A ∧
      operandBytes .rorAcc = [] ∧ ∀ s, exec .rorAcc s = execRorAcc s :=
  ⟨rfl, rfl, rfl, rfl, fun _ => rfl⟩

@[simp] theorem jmpInd_row (v : Addr) :
    (Instr.jmpInd v).mnemonic = .jmp ∧ (Instr.jmpInd v).mode = .ind ∧ opcode (.jmpInd v) = 0x6C ∧
      operandBytes (.jmpInd v) = [lo8 v, hi8 v] ∧ ∀ s, exec (.jmpInd v) s = execJmpInd v s :=
  ⟨rfl, rfl, rfl, rfl, fun _ => rfl⟩

@[simp] theorem adcAbs_row (v : Addr) :
    (Instr.adcAbs v).mnemonic = .adc ∧ (Instr.adcAbs v).mode = .abs ∧ opcode (.adcAbs v) = 0x6D ∧
      operandBytes (.adcAbs v) = [lo8 v, hi8 v] ∧ ∀ s, exec (.adcAbs v) s = execAdcAbs v s :=
  ⟨rfl, rfl, rfl, rfl, fun _ => rfl⟩

@[simp] theorem rorAbs_row (v : Addr) :
    (Instr.rorAbs v).mnemonic = .ror ∧ (Instr.rorAbs v).mode = .abs ∧ opcode (.rorAbs v) = 0x6E ∧
      operandBytes (.rorAbs v) = [lo8 v, hi8 v] ∧ ∀ s, exec (.rorAbs v) s = execRorAbs v s :=
  ⟨rfl, rfl, rfl, rfl, fun _ => rfl⟩

@[simp] theorem bvs_row (v : Byte) :
    (Instr.bvs v).mnemonic = .bvs ∧ (Instr.bvs v).mode = .rel ∧ opcode (.bvs v) = 0x70 ∧
      operandBytes (.bvs v) = [v] ∧ ∀ s, exec (.bvs v) s = execBvs v s :=
  ⟨rfl, rfl, rfl, rfl, fun _ => rfl⟩

@[simp] theorem adcIzy_row (v : Byte) :
    (Instr.adcIzy v).mnemonic = .adc ∧ (Instr.adcIzy v).mode = .izy ∧ opcode (.adcIzy v) = 0x71 ∧
      operandBytes (.adcIzy v) = [v] ∧ ∀ s, exec (.adcIzy v) s = execAdcIzy v s :=
  ⟨rfl, rfl, rfl, rfl, fun _ => rfl⟩

@[simp] theorem adcZpx_row (v : Byte) :
    (Instr.adcZpx v).mnemonic = .adc ∧ (Instr.adcZpx v).mode = .zpx ∧ opcode (.adcZpx v) = 0x75 ∧
      operandBytes (.adcZpx v) = [v] ∧ ∀ s, exec (.adcZpx v) s = execAdcZpx v s :=
  ⟨rfl, rfl, rfl, rfl, fun _ => rfl⟩

@[simp] theorem rorZpx_row (v : Byte) :
    (Instr.rorZpx v).mnemonic = .ror ∧ (Instr.rorZpx v).mode = .zpx ∧ opcode (.rorZpx v) = 0x76 ∧
      operandBytes (.rorZpx v) = [v] ∧ ∀ s, exec (.rorZpx v) s = execRorZpx v s :=
  ⟨rfl, rfl, rfl, rfl, fun _ => rfl⟩

@[simp] theorem sei_row :
    Instr.sei.mnemonic = .sei ∧ Instr.sei.mode = .imp ∧ opcode .sei = 0x78 ∧
      operandBytes .sei = [] ∧ ∀ s, exec .sei s = execSei s :=
  ⟨rfl, rfl, rfl, rfl, fun _ => rfl⟩

@[simp] theorem adcAby_row (v : Addr) :
    (Instr.adcAby v).mnemonic = .adc ∧ (Instr.adcAby v).mode = .aby ∧ opcode (.adcAby v) = 0x79 ∧
      operandBytes (.adcAby v) = [lo8 v, hi8 v] ∧ ∀ s, exec (.adcAby v) s = execAdcAby v s :=
  ⟨rfl, rfl, rfl, rfl, fun _ => rfl⟩

@[simp] theorem adcAbx_row (v : Addr) :
    (Instr.adcAbx v).mnemonic = .adc ∧ (Instr.adcAbx v).mode = .abx ∧ opcode (.adcAbx v) = 0x7D ∧
      operandBytes (.adcAbx v) = [lo8 v, hi8 v] ∧ ∀ s, exec (.adcAbx v) s = execAdcAbx v s :=
  ⟨rfl, rfl, rfl, rfl, fun _ => rfl⟩

@[simp] theorem rorAbx_row (v : Addr) :
    (Instr.rorAbx v).mnemonic = .ror ∧ (Instr.rorAbx v).mode = .abx ∧ opcode (.rorAbx v) = 0x7E ∧
      operandBytes (.rorAbx v) = [lo8 v, hi8 v] ∧ ∀ s, exec (.rorAbx v) s = execRorAbx v s :=
  ⟨rfl, rfl, rfl, rfl, fun _ => rfl⟩

@[simp] theorem staIzx_row (v : Byte) :
    (Instr.staIzx v).mnemonic = .sta ∧ (Instr.staIzx v).mode = .izx ∧ opcode (.staIzx v) = 0x81 ∧
      operandBytes (.staIzx v) = [v] ∧ ∀ s, exec (.staIzx v) s = execStaIzx v s :=
  ⟨rfl, rfl, rfl, rfl, fun _ => rfl⟩

@[simp] theorem styZp_row (v : Byte) :
    (Instr.styZp v).mnemonic = .sty ∧ (Instr.styZp v).mode = .zp ∧ opcode (.styZp v) = 0x84 ∧
      operandBytes (.styZp v) = [v] ∧ ∀ s, exec (.styZp v) s = execStyZp v s :=
  ⟨rfl, rfl, rfl, rfl, fun _ => rfl⟩

@[simp] theorem staZp_row (v : Byte) :
    (Instr.staZp v).mnemonic = .sta ∧ (Instr.staZp v).mode = .zp ∧ opcode (.staZp v) = 0x85 ∧
      operandBytes (.staZp v) = [v] ∧ ∀ s, exec (.staZp v) s = execStaZp v s :=
  ⟨rfl, rfl, rfl, rfl, fun _ => rfl⟩

@[simp] theorem stxZp_row (v : Byte) :
    (Instr.stxZp v).mnemonic = .stx ∧ (Instr.stxZp v).mode = .zp ∧ opcode (.stxZp v) = 0x86 ∧
      operandBytes (.stxZp v) = [v] ∧ ∀ s, exec (.stxZp v) s = execStxZp v s :=
  ⟨rfl, rfl, rfl, rfl, fun _ => rfl⟩

@[simp] theorem dey_row :
    Instr.dey.mnemonic = .dey ∧ Instr.dey.mode = .imp ∧ opcode .dey = 0x88 ∧
      operandBytes .dey = [] ∧ ∀ s, exec .dey s = execDey s :=
  ⟨rfl, rfl, rfl, rfl, fun _ => rfl⟩

@[simp] theorem txa_row :
    Instr.txa.mnemonic = .txa ∧ Instr.txa.mode = .imp ∧ opcode .txa = 0x8A ∧
      operandBytes .txa = [] ∧ ∀ s, exec .txa s = execTxa s :=
  ⟨rfl, rfl, rfl, rfl, fun _ => rfl⟩

@[simp] theorem styAbs_row (v : Addr) :
    (Instr.styAbs v).mnemonic = .sty ∧ (Instr.styAbs v).mode = .abs ∧ opcode (.styAbs v) = 0x8C ∧
      operandBytes (.styAbs v) = [lo8 v, hi8 v] ∧ ∀ s, exec (.styAbs v) s = execStyAbs v s :=
  ⟨rfl, rfl, rfl, rfl, fun _ => rfl⟩

@[simp] theorem staAbs_row (v : Addr) :
    (Instr.staAbs v).mnemonic = .sta ∧ (Instr.staAbs v).mode = .abs ∧ opcode (.staAbs v) = 0x8D ∧
      operandBytes (.staAbs v) = [lo8 v, hi8 v] ∧ ∀ s, exec (.staAbs v) s = execStaAbs v s :=
  ⟨rfl, rfl, rfl, rfl, fun _ => rfl⟩

@[simp] theorem stxAbs_row (v : Addr) :
    (Instr.stxAbs v).mnemonic = .stx ∧ (Instr.stxAbs v).mode = .abs ∧ opcode (.stxAbs v) = 0x8E ∧
      operandBytes (.stxAbs v) = [lo8 v, hi8 v] ∧ ∀ s, exec (.stxAbs v) s = execStxAbs v s :=
  ⟨rfl, rfl, rfl, rfl, fun _ => rfl⟩

@[simp] theorem bcc_row (v : Byte) :
    (Instr.bcc v).mnemonic = .bcc ∧ (Instr.bcc v).mode = .rel ∧ opcode (.bcc v) = 0x90 ∧
      operandBytes (.bcc v) = [v] ∧ ∀ s, exec (.bcc v) s = execBcc v s :=
  ⟨rfl, rfl, rfl, rfl, fun _ => rfl⟩

@[simp] theorem staIzy_row (v : Byte) :
    (Instr.staIzy v).mnemonic = .sta ∧ (Instr.staIzy v).mode = .izy ∧ opcode (.staIzy v) = 0x91 ∧
      operandBytes (.staIzy v) = [v] ∧ ∀ s, exec (.staIzy v) s = execStaIzy v s :=
  ⟨rfl, rfl, rfl, rfl, fun _ => rfl⟩

@[simp] theorem styZpx_row (v : Byte) :
    (Instr.styZpx v).mnemonic = .sty ∧ (Instr.styZpx v).mode = .zpx ∧ opcode (.styZpx v) = 0x94 ∧
      operandBytes (.styZpx v) = [v] ∧ ∀ s, exec (.styZpx v) s = execStyZpx v s :=
  ⟨rfl, rfl, rfl, rfl, fun _ => rfl⟩

@[simp] theorem staZpx_row (v : Byte) :
    (Instr.staZpx v).mnemonic = .sta ∧ (Instr.staZpx v).mode = .zpx ∧ opcode (.staZpx v) = 0x95 ∧
      operandBytes (.staZpx v) = [v] ∧ ∀ s, exec (.staZpx v) s = execStaZpx v s :=
  ⟨rfl, rfl, rfl, rfl, fun _ => rfl⟩

@[simp] theorem stxZpy_row (v : Byte) :
    (Instr.stxZpy v).mnemonic = .stx ∧ (Instr.stxZpy v).mode = .zpy ∧ opcode (.stxZpy v) = 0x96 ∧
      operandBytes (.stxZpy v) = [v] ∧ ∀ s, exec (.stxZpy v) s = execStxZpy v s :=
  ⟨rfl, rfl, rfl, rfl, fun _ => rfl⟩

@[simp] theorem tya_row :
    Instr.tya.mnemonic = .tya ∧ Instr.tya.mode = .imp ∧ opcode .tya = 0x98 ∧
      operandBytes .tya = [] ∧ ∀ s, exec .tya s = execTya s :=
  ⟨rfl, rfl, rfl, rfl, fun _ => rfl⟩

@[simp] theorem staAby_row (v : Addr) :
    (Instr.staAby v).mnemonic = .sta ∧ (Instr.staAby v).mode = .aby ∧ opcode (.staAby v) = 0x99 ∧
      operandBytes (.staAby v) = [lo8 v, hi8 v] ∧ ∀ s, exec (.staAby v) s = execStaAby v s :=
  ⟨rfl, rfl, rfl, rfl, fun _ => rfl⟩

@[simp] theorem txs_row :
    Instr.txs.mnemonic = .txs ∧ Instr.txs.mode = .imp ∧ opcode .txs = 0x9A ∧
      operandBytes .txs = [] ∧ ∀ s, exec .txs s = execTxs s :=
  ⟨rfl, rfl, rfl, rfl, fun _ => rfl⟩

@[simp] theorem staAbx_row (v : Addr) :
    (Instr.staAbx v).mnemonic = .sta ∧ (Instr.staAbx v).mode = .abx ∧ opcode (.staAbx v) = 0x9D ∧
      operandBytes (.staAbx v) = [lo8 v, hi8 v] ∧ ∀ s, exec (.staAbx v) s = execStaAbx v s :=
  ⟨rfl, rfl, rfl, rfl, fun _ => rfl⟩

@[simp] theorem ldyImm_row (v : Byte) :
    (Instr.ldyImm v).mnemonic = .ldy ∧ (Instr.ldyImm v).mode = .imm ∧ opcode (.ldyImm v) = 0xA0 ∧
      operandBytes (.ldyImm v) = [v] ∧ ∀ s, exec (.ldyImm v) s = execLdyImm v s :=
  ⟨rfl, rfl, rfl, rfl, fun _ => rfl⟩

@[simp] theorem ldaIzx_row (v : Byte) :
    (Instr.ldaIzx v).mnemonic = .lda ∧ (Instr.ldaIzx v).mode = .izx ∧ opcode (.ldaIzx v) = 0xA1 ∧
      operandBytes (.ldaIzx v) = [v] ∧ ∀ s, exec (.ldaIzx v) s = execLdaIzx v s :=
  ⟨rfl, rfl, rfl, rfl, fun _ => rfl⟩

@[simp] theorem ldxImm_row (v : Byte) :
    (Instr.ldxImm v).mnemonic = .ldx ∧ (Instr.ldxImm v).mode = .imm ∧ opcode (.ldxImm v) = 0xA2 ∧
      operandBytes (.ldxImm v) = [v] ∧ ∀ s, exec (.ldxImm v) s = execLdxImm v s :=
  ⟨rfl, rfl, rfl, rfl, fun _ => rfl⟩

@[simp] theorem ldyZp_row (v : Byte) :
    (Instr.ldyZp v).mnemonic = .ldy ∧ (Instr.ldyZp v).mode = .zp ∧ opcode (.ldyZp v) = 0xA4 ∧
      operandBytes (.ldyZp v) = [v] ∧ ∀ s, exec (.ldyZp v) s = execLdyZp v s :=
  ⟨rfl, rfl, rfl, rfl, fun _ => rfl⟩

@[simp] theorem ldaZp_row (v : Byte) :
    (Instr.ldaZp v).mnemonic = .lda ∧ (Instr.ldaZp v).mode = .zp ∧ opcode (.ldaZp v) = 0xA5 ∧
      operandBytes (.ldaZp v) = [v] ∧ ∀ s, exec (.ldaZp v) s = execLdaZp v s :=
  ⟨rfl, rfl, rfl, rfl, fun _ => rfl⟩

@[simp] theorem ldxZp_row (v : Byte) :
    (Instr.ldxZp v).mnemonic = .ldx ∧ (Instr.ldxZp v).mode = .zp ∧ opcode (.ldxZp v) = 0xA6 ∧
      operandBytes (.ldxZp v) = [v] ∧ ∀ s, exec (.ldxZp v) s = execLdxZp v s :=
  ⟨rfl, rfl, rfl, rfl, fun _ => rfl⟩

@[simp] theorem tay_row :
    Instr.tay.mnemonic = .tay ∧ Instr.tay.mode = .imp ∧ opcode .tay = 0xA8 ∧
      operandBytes .tay = [] ∧ ∀ s, exec .tay s = execTay s :=
  ⟨rfl, rfl, rfl, rfl, fun _ => rfl⟩

@[simp] theorem ldaImm_row (v : Byte) :
    (Instr.ldaImm v).mnemonic = .lda ∧ (Instr.ldaImm v).mode = .imm ∧ opcode (.ldaImm v) = 0xA9 ∧
      operandBytes (.ldaImm v) = [v] ∧ ∀ s, exec (.ldaImm v) s = execLdaImm v s :=
  ⟨rfl, rfl, rfl, rfl, fun _ => rfl⟩

@[simp] theorem tax_row :
    Instr.tax.mnemonic = .tax ∧ Instr.tax.mode = .imp ∧ opcode .tax = 0xAA ∧
      operandBytes .tax = [] ∧ ∀ s, exec .tax s = execTax s :=
  ⟨rfl, rfl, rfl, rfl, fun _ => rfl⟩

@[simp] theorem ldyAbs_row (v : Addr) :
    (Instr.ldyAbs v).mnemonic = .ldy ∧ (Instr.ldyAbs v).mode = .abs ∧ opcode (.ldyAbs v) = 0xAC ∧
      operandBytes (.ldyAbs v) = [lo8 v, hi8 v] ∧ ∀ s, exec (.ldyAbs v) s = execLdyAbs v s :=
  ⟨rfl, rfl, rfl, rfl, fun _ => rfl⟩

@[simp] theorem ldaAbs_row (v : Addr) :
    (Instr.ldaAbs v).mnemonic = .lda ∧ (Instr.ldaAbs v).mode = .abs ∧ opcode (.ldaAbs v) = 0xAD ∧
      operandBytes (.ldaAbs v) = [lo8 v, hi8 v] ∧ ∀ s, exec (.ldaAbs v) s = execLdaAbs v s :=
  ⟨rfl, rfl, rfl, rfl, fun _ => rfl⟩

@[simp] theorem ldxAbs_row (v : Addr) :
    (Instr.ldxAbs v).mnemonic = .ldx ∧ (Instr.ldxAbs v).mode = .abs ∧ opcode (.ldxAbs v) = 0xAE ∧
      operandBytes (.ldxAbs v) = [lo8 v, hi8 v] ∧ ∀ s, exec (.ldxAbs v) s = execLdxAbs v s :=
  ⟨rfl, rfl, rfl, rfl, fun _ => rfl⟩

@[simp] theorem bcs_row (v : Byte) :
    (Instr.bcs v).mnemonic = .bcs ∧ (Instr.bcs v).mode = .rel ∧ opcode (.bcs v) = 0xB0 ∧
      operandBytes (.bcs v) = [v] ∧ ∀ s, exec (.bcs v) s = execBcs v s :=
  ⟨rfl, rfl, rfl, rfl, fun _ => rfl⟩

@[simp] theorem ldaIzy_row (v : Byte) :
    (Instr.ldaIzy v).mnemonic = .lda ∧ (Instr.ldaIzy v).mode = .izy ∧ opcode (.ldaIzy v) = 0xB1 ∧
      operandBytes (.ldaIzy v) = [v] ∧ ∀ s, exec (.ldaIzy v) s = execLdaIzy v s :=
  ⟨rfl, rfl, rfl, rfl, fun _ => rfl⟩

@[simp] theorem ldyZpx_row (v : Byte) :
    (Instr.ldyZpx v).mnemonic = .ldy ∧ (Instr.ldyZpx v).mode = .zpx ∧ opcode (.ldyZpx v) = 0xB4 ∧
      operandBytes (.ldyZpx v) = [v] ∧ ∀ s, exec (.ldyZpx v) s = execLdyZpx v s :=
  ⟨rfl, rfl, rfl, rfl, fun _ => rfl⟩

@[simp] theorem ldaZpx_row (v : Byte) :
    (Instr.ldaZpx v).mnemonic = .lda ∧ (Instr.ldaZpx v).mode = .zpx ∧ opcode (.ldaZpx v) = 0xB5 ∧
      operandBytes (.ldaZpx v) = [v] ∧ ∀ s, exec (.ldaZpx v) s = execLdaZpx v s :=
  ⟨rfl, rfl, rfl, rfl, fun _ => rfl⟩

@[simp] theorem ldxZpy_row (v : Byte) :
    (Instr.ldxZpy v).mnemonic = .ldx ∧ (Instr.ldxZpy v).mode = .zpy ∧ opcode (.ldxZpy v) = 0xB6 ∧
      operandBytes (.ldxZpy v) = [v] ∧ ∀ s, exec (.ldxZpy v) s = execLdxZpy v s :=
  ⟨rfl, rfl, rfl, rfl, fun _ => rfl⟩

@[simp] theorem clv_row :
    Instr.clv.mnemonic = .clv ∧ Instr.clv.mode = .imp ∧ opcode .clv = 0xB8 ∧
      operandBytes .clv = [] ∧ ∀ s, exec .clv s = execClv s :=
  ⟨rfl, rfl, rfl, rfl, fun _ => rfl⟩

@[simp] theorem ldaAby_row (v : Addr) :
    (Instr.ldaAby v).mnemonic = .lda ∧ (Instr.ldaAby v).mode = .aby ∧ opcode (.ldaAby v) = 0xB9 ∧
      operandBytes (.ldaAby v) = [lo8 v, hi8 v] ∧ ∀ s, exec (.ldaAby v) s = execLdaAby v s :=
  ⟨rfl, rfl, rfl, rfl, fun _ => rfl⟩

@[simp] theorem tsx_row :
    Instr.tsx.mnemonic = .tsx ∧ Instr.tsx.mode = .imp ∧ opcode .tsx = 0xBA ∧
      operandBytes .tsx = [] ∧ ∀ s, exec .tsx s = execTsx s :=
  ⟨rfl, rfl, rfl, rfl, fun _ => rfl⟩

@[simp] theorem ldyAbx_row (v : Addr) :
    (Instr.ldyAbx v).mnemonic = .ldy ∧ (Instr.ldyAbx v).mode = .abx ∧ opcode (.ldyAbx v) = 0xBC ∧
      operandBytes (.ldyAbx v) = [lo8 v, hi8 v] ∧ ∀ s, exec (.ldyAbx v) s = execLdyAbx v s :=
  ⟨rfl, rfl, rfl, rfl, fun _ => rfl⟩

@[simp] theorem ldaAbx_row (v : Addr) :
    (Instr.ldaAbx v).mnemonic = .lda ∧ (Instr.ldaAbx v).mode = .abx ∧ opcode (.ldaAbx v) = 0xBD ∧
      operandBytes (.ldaAbx v) = [lo8 v, hi8 v] ∧ ∀ s, exec (.ldaAbx v) s = execLdaAbx v s :=
  ⟨rfl, rfl, rfl, rfl, fun _ => rfl⟩

@[simp] theorem ldxAby_row (v : Addr) :
    (Instr.ldxAby v).mnemonic = .ldx ∧ (Instr.ldxAby v).mode = .aby ∧ opcode (.ldxAby v) = 0xBE ∧
      operandBytes (.ldxAby v) = [lo8 v, hi8 v] ∧ ∀ s, exec (.ldxAby v) s = execLdxAby v s :=
  ⟨rfl, rfl, rfl, rfl, fun _ => rfl⟩

@[simp] theorem cpyImm_row (v : Byte) :
    (Instr.cpyImm v).mnemonic = .cpy ∧ (Instr.cpyImm v).mode = .imm ∧ opcode (.cpyImm v) = 0xC0 ∧
      operandBytes (.cpyImm v) = [v] ∧ ∀ s, exec (.cpyImm v) s = execCpyImm v s :=
  ⟨rfl, rfl, rfl, rfl, fun _ => rfl⟩

@[simp] theorem cmpIzx_row (v : Byte) :
    (Instr.cmpIzx v).mnemonic = .cmp ∧ (Instr.cmpIzx v).mode = .izx ∧ opcode (.cmpIzx v) = 0xC1 ∧
      operandBytes (.cmpIzx v) = [v] ∧ ∀ s, exec (.cmpIzx v) s = execCmpIzx v s :=
  ⟨rfl, rfl, rfl, rfl, fun _ => rfl⟩

@[simp] theorem cpyZp_row (v : Byte) :
    (Instr.cpyZp v).mnemonic = .cpy ∧ (Instr.cpyZp v).mode = .zp ∧ opcode (.cpyZp v) = 0xC4 ∧
      operandBytes (.cpyZp v) = [v] ∧ ∀ s, exec (.cpyZp v) s = execCpyZp v s :=
  ⟨rfl, rfl, rfl, rfl, fun _ => rfl⟩

@[simp] theorem cmpZp_row (v : Byte) :
    (Instr.cmpZp v).mnemonic = .cmp ∧ (Instr.cmpZp v).mode = .zp ∧ opcode (.cmpZp v) = 0xC5 ∧
      operandBytes (.cmpZp v) = [v] ∧ ∀ s, exec (.cmpZp v) s = execCmpZp v s :=
  ⟨rfl, rfl, rfl, rfl, fun _ => rfl⟩

@[simp] theorem decZp_row (v : Byte) :
    (Instr.decZp v).mnemonic = .dec ∧ (Instr.decZp v).mode = .zp ∧ opcode (.decZp v) = 0xC6 ∧
      operandBytes (.decZp v) = [v] ∧ ∀ s, exec (.decZp v) s = execDecZp v s :=
  ⟨rfl, rfl, rfl, rfl, fun _ => rfl⟩

@[simp] theorem iny_row :
    Instr.iny.mnemonic = .iny ∧ Instr.iny.mode = .imp ∧ opcode .iny = 0xC8 ∧
      operandBytes .iny = [] ∧ ∀ s, exec .iny s = execIny s :=
  ⟨rfl, rfl, rfl, rfl, fun _ => rfl⟩

@[simp] theorem cmpImm_row (v : Byte) :
    (Instr.cmpImm v).mnemonic = .cmp ∧ (Instr.cmpImm v).mode = .imm ∧ opcode (.cmpImm v) = 0xC9 ∧
      operandBytes (.cmpImm v) = [v] ∧ ∀ s, exec (.cmpImm v) s = execCmpImm v s :=
  ⟨rfl, rfl, rfl, rfl, fun _ => rfl⟩

@[simp] theorem dex_row :
    Instr.dex.mnemonic = .dex ∧ Instr.dex.mode = .imp ∧ opcode .dex = 0xCA ∧
      operandBytes .dex = [] ∧ ∀ s, exec .dex s = execDex s :=
  ⟨rfl, rfl, rfl, rfl, fun _ => rfl⟩

@[simp] theorem cpyAbs_row (v : Addr) :
    (Instr.cpyAbs v).mnemonic = .cpy ∧ (Instr.cpyAbs v).mode = .abs ∧ opcode (.cpyAbs v) = 0xCC ∧
      operandBytes (.cpyAbs v) = [lo8 v, hi8 v] ∧ ∀ s, exec (.cpyAbs v) s = execCpyAbs v s :=
  ⟨rfl, rfl, rfl, rfl, fun _ => rfl⟩

@[simp] theorem cmpAbs_row (v : Addr) :
    (Instr.cmpAbs v).mnemonic = .cmp ∧ (Instr.cmpAbs v).mode = .abs ∧ opcode (.cmpAbs v) = 0xCD ∧
      operandBytes (.cmpAbs v) = [lo8 v, hi8 v] ∧ ∀ s, exec (.cmpAbs v) s = execCmpAbs v s :=
  ⟨rfl, rfl, rfl, rfl, fun _ => rfl⟩

@[simp] theorem decAbs_row (v : Addr) :
    (Instr.decAbs v).mnemonic = .dec ∧ (Instr.decAbs v).mode = .abs ∧ opcode (.decAbs v) = 0xCE ∧
      operandBytes (.decAbs v) = [lo8 v, hi8 v] ∧ ∀ s, exec (.decAbs v) s = execDecAbs v s :=
  ⟨rfl, rfl, rfl, rfl, fun _ => rfl⟩

@[simp] theorem bne_row (v : Byte) :
    (Instr.bne v).mnemonic = .bne ∧ (Instr.bne v).mode = .rel ∧ opcode (.bne v) = 0xD0 ∧
      operandBytes (.bne v) = [v] ∧ ∀ s, exec (.bne v) s = execBne v s :=
  ⟨rfl, rfl, rfl, rfl, fun _ => rfl⟩

@[simp] theorem cmpIzy_row (v : Byte) :
    (Instr.cmpIzy v).mnemonic = .cmp ∧ (Instr.cmpIzy v).mode = .izy ∧ opcode (.cmpIzy v) = 0xD1 ∧
      operandBytes (.cmpIzy v) = [v] ∧ ∀ s, exec (.cmpIzy v) s = execCmpIzy v s :=
  ⟨rfl, rfl, rfl, rfl, fun _ => rfl⟩

@[simp] theorem cmpZpx_row (v : Byte) :
    (Instr.cmpZpx v).mnemonic = .cmp ∧ (Instr.cmpZpx v).mode = .zpx ∧ opcode (.cmpZpx v) = 0xD5 ∧
      operandBytes (.cmpZpx v) = [v] ∧ ∀ s, exec (.cmpZpx v) s = execCmpZpx v s :=
  ⟨rfl, rfl, rfl, rfl, fun _ => rfl⟩

@[simp] theorem decZpx_row (v : Byte) :
    (Instr.decZpx v).mnemonic = .dec ∧ (Instr.decZpx v).mode = .zpx ∧ opcode (.decZpx v) = 0xD6 ∧
      operandBytes (.decZpx v) = [v] ∧ ∀ s, exec (.decZpx v) s = execDecZpx v s :=
  ⟨rfl, rfl, rfl, rfl, fun _ => rfl⟩

@[simp] theorem cld_row :
    Instr.cld.mnemonic = .cld ∧ Instr.cld.mode = .imp ∧ opcode .cld = 0xD8 ∧
      operandBytes .cld = [] ∧ ∀ s, exec .cld s = execCld s :=
  ⟨rfl, rfl, rfl, rfl, fun _ => rfl⟩

@[simp] theorem cmpAby_row (v : Addr) :
    (Instr.cmpAby v).mnemonic = .cmp ∧ (Instr.cmpAby v).mode = .aby ∧ opcode (.cmpAby v) = 0xD9 ∧
      operandBytes (.cmpAby v) = [lo8 v, hi8 v] ∧ ∀ s, exec (.cmpAby v) s = execCmpAby v s :=
  ⟨rfl, rfl, rfl, rfl, fun _ => rfl⟩

@[simp] theorem cmpAbx_row (v : Addr) :
    (Instr.cmpAbx v).mnemonic = .cmp ∧ (Instr.cmpAbx v).mode = .abx ∧ opcode (.cmpAbx v) = 0xDD ∧
      operandBytes (.cmpAbx v) = [lo8 v, hi8 v] ∧ ∀ s, exec (.cmpAbx v) s = execCmpAbx v s :=
  ⟨rfl, rfl, rfl, rfl, fun _ => rfl⟩

@[simp] theorem decAbx_row (v : Addr) :
    (Instr.decAbx v).mnemonic = .dec ∧ (Instr.decAbx v).mode = .abx ∧ opcode (.decAbx v) = 0xDE ∧
      operandBytes (.decAbx v) = [lo8 v, hi8 v] ∧ ∀ s, exec (.decAbx v) s = execDecAbx v s :=
  ⟨rfl, rfl, rfl, rfl, fun _ => rfl⟩

@[simp] theorem cpxImm_row (v : Byte) :
    (Instr.cpxImm v).mnemonic = .cpx ∧ (Instr.cpxImm v).mode = .imm ∧ opcode (.cpxImm v) = 0xE0 ∧
      operandBytes (.cpxImm v) = [v] ∧ ∀ s, exec (.cpxImm v) s = execCpxImm v s :=
  ⟨rfl, rfl, rfl, rfl, fun _ => rfl⟩

@[simp] theorem sbcIzx_row (v : Byte) :
    (Instr.sbcIzx v).mnemonic = .sbc ∧ (Instr.sbcIzx v).mode = .izx ∧ opcode (.sbcIzx v) = 0xE1 ∧
      operandBytes (.sbcIzx v) = [v] ∧ ∀ s, exec (.sbcIzx v) s = execSbcIzx v s :=
  ⟨rfl, rfl, rfl, rfl, fun _ => rfl⟩

@[simp] theorem cpxZp_row (v : Byte) :
    (Instr.cpxZp v).mnemonic = .cpx ∧ (Instr.cpxZp v).mode = .zp ∧ opcode (.cpxZp v) = 0xE4 ∧
      operandBytes (.cpxZp v) = [v] ∧ ∀ s, exec (.cpxZp v) s = execCpxZp v s :=
  ⟨rfl, rfl, rfl, rfl, fun _ => rfl⟩

@[simp] theorem sbcZp_row (v : Byte) :
    (Instr.sbcZp v).mnemonic = .sbc ∧ (Instr.sbcZp v).mode = .zp ∧ opcode (.sbcZp v) = 0xE5 ∧
      operandBytes (.sbcZp v) = [v] ∧ ∀ s, exec (.sbcZp v) s = execSbcZp v s :=
  ⟨rfl, rfl, rfl, rfl, fun _ => rfl⟩

@[simp] theorem incZp_row (v : Byte) :
    (Instr.incZp v).mnemonic = .inc ∧ (Instr.incZp v).mode = .zp ∧ opcode (.incZp v) = 0xE6 ∧
      operandBytes (.incZp v) = [v] ∧ ∀ s, exec (.incZp v) s = execIncZp v s :=
  ⟨rfl, rfl, rfl, rfl, fun _ => rfl⟩

@[simp] theorem inx_row :
    Instr.inx.mnemonic = .inx ∧ Instr.inx.mode = .imp ∧ opcode .inx = 0xE8 ∧
      operandBytes .inx = [] ∧ ∀ s, exec .inx s = execInx s :=
  ⟨rfl, rfl, rfl, rfl, fun _ => rfl⟩

@[simp] theorem sbcImm_row (v : Byte) :
    (Instr.sbcImm v).mnemonic = .sbc ∧ (Instr.sbcImm v).mode = .imm ∧ opcode (.sbcImm v) = 0xE9 ∧
      operandBytes (.sbcImm v) = [v] ∧ ∀ s, exec (.sbcImm v) s = execSbcImm v s :=
  ⟨rfl, rfl, rfl, rfl, fun _ => rfl⟩

@[simp] theorem nop_row :
    Instr.nop.mnemonic = .nop ∧ Instr.nop.mode = .imp ∧ opcode .nop = 0xEA ∧
      operandBytes .nop = [] ∧ ∀ s, exec .nop s = execNop s :=
  ⟨rfl, rfl, rfl, rfl, fun _ => rfl⟩

@[simp] theorem cpxAbs_row (v : Addr) :
    (Instr.cpxAbs v).mnemonic = .cpx ∧ (Instr.cpxAbs v).mode = .abs ∧ opcode (.cpxAbs v) = 0xEC ∧
      operandBytes (.cpxAbs v) = [lo8 v, hi8 v] ∧ ∀ s, exec (.cpxAbs v) s = execCpxAbs v s :=
  ⟨rfl, rfl, rfl, rfl, fun _ => rfl⟩

@[simp] theorem sbcAbs_row (v : Addr) :
    (Instr.sbcAbs v).mnemonic = .sbc ∧ (Instr.sbcAbs v).mode = .abs ∧ opcode (.sbcAbs v) = 0xED ∧
      operandBytes (.sbcAbs v) = [lo8 v, hi8 v] ∧ ∀ s, exec (.sbcAbs v) s = execSbcAbs v s :=
  ⟨rfl, rfl, rfl, rfl, fun _ => rfl⟩

@[simp] theorem incAbs_row (v : Addr) :
    (Instr.incAbs v).mnemonic = .inc ∧ (Instr.incAbs v).mode = .abs ∧ opcode (.incAbs v) = 0xEE ∧
      operandBytes (.incAbs v) = [lo8 v, hi8 v] ∧ ∀ s, exec (.incAbs v) s = execIncAbs v s :=
  ⟨rfl, rfl, rfl, rfl, fun _ => rfl⟩

@[simp] theorem beq_row (v : Byte) :
    (Instr.beq v).mnemonic = .beq ∧ (Instr.beq v).mode = .rel ∧ opcode (.beq v) = 0xF0 ∧
      operandBytes (.beq v) = [v] ∧ ∀ s, exec (.beq v) s = execBeq v s :=
  ⟨rfl, rfl, rfl, rfl, fun _ => rfl⟩

@[simp] theorem sbcIzy_row (v : Byte) :
    (Instr.sbcIzy v).mnemonic = .sbc ∧ (Instr.sbcIzy v).mode = .izy ∧ opcode (.sbcIzy v) = 0xF1 ∧
      operandBytes (.sbcIzy v) = [v] ∧ ∀ s, exec (.sbcIzy v) s = execSbcIzy v s :=
  ⟨rfl, rfl, rfl, rfl, fun _ => rfl⟩

@[simp] theorem sbcZpx_row (v : Byte) :
    (Instr.sbcZpx v).mnemonic = .sbc ∧ (Instr.sbcZpx v).mode = .zpx ∧ opcode (.sbcZpx v) = 0xF5 ∧
      operandBytes (.sbcZpx v) = [v] ∧ ∀ s, exec (.sbcZpx v) s = execSbcZpx v s :=
  ⟨rfl, rfl, rfl, rfl, fun _ => rfl⟩

@[simp] theorem incZpx_row (v : Byte) :
    (Instr.incZpx v).mnemonic = .inc ∧ (Instr.incZpx v).mode = .zpx ∧ opcode (.incZpx v) = 0xF6 ∧
      operandBytes (.incZpx v) = [v] ∧ ∀ s, exec (.incZpx v) s = execIncZpx v s :=
  ⟨rfl, rfl, rfl, rfl, fun _ => rfl⟩

@[simp] theorem sed_row :
    Instr.sed.mnemonic = .sed ∧ Instr.sed.mode = .imp ∧ opcode .sed = 0xF8 ∧
      operandBytes .sed = [] ∧ ∀ s, exec .sed s = execSed s :=
  ⟨rfl, rfl, rfl, rfl, fun _ => rfl⟩

@[simp] theorem sbcAby_row (v : Addr) :
    (Instr.sbcAby v).mnemonic = .sbc ∧ (Instr.sbcAby v).mode = .aby ∧ opcode (.sbcAby v) = 0xF9 ∧
      operandBytes (.sbcAby v) = [lo8 v, hi8 v] ∧ ∀ s, exec (.sbcAby v) s = execSbcAby v s :=
  ⟨rfl, rfl, rfl, rfl, fun _ => rfl⟩

@[simp] theorem sbcAbx_row (v : Addr) :
    (Instr.sbcAbx v).mnemonic = .sbc ∧ (Instr.sbcAbx v).mode = .abx ∧ opcode (.sbcAbx v) = 0xFD ∧
      operandBytes (.sbcAbx v) = [lo8 v, hi8 v] ∧ ∀ s, exec (.sbcAbx v) s = execSbcAbx v s :=
  ⟨rfl, rfl, rfl, rfl, fun _ => rfl⟩

@[simp] theorem incAbx_row (v : Addr) :
    (Instr.incAbx v).mnemonic = .inc ∧ (Instr.incAbx v).mode = .abx ∧ opcode (.incAbx v) = 0xFE ∧
      operandBytes (.incAbx v) = [lo8 v, hi8 v] ∧ ∀ s, exec (.incAbx v) s = execIncAbx v s :=
  ⟨rfl, rfl, rfl, rfl, fun _ => rfl⟩

end Sys2Proof.Machine
end

