-- ==== Sys2Proof/Laws/Step.lean ====
section
/-! SUPPORT. What one step can do: nothing, the halt on an unknown opcode, or one instruction; and the lemmas of the control
port's parts. -/

namespace Sys2Proof.Machine

theorem canDispatch_iff (s : State) : canDispatch s = true ↔ s.runState = .running ∧ 0 < s.cyclesAvailable := by
  simp [canDispatch]

/-- A step that answers a next state did nothing, halted on an unknown opcode, or ran the instruction at PC. -/
theorem step_next {s t : State} (h : step s = .next t) :
    (canDispatch s = false ∧ t = s) ∨
      (canDispatch s = true ∧ fetchInstr s = none ∧ t = haltUnknown (fetchOpcode s) s) ∨
      (canDispatch s = true ∧ ∃ i, fetchInstr s = some i ∧ exec i s = .next t) := by
  unfold step at h
  cases hd : canDispatch s
  · simp only [hd] at h
    exact .inl ⟨rfl, by simpa using h.symm⟩
  · simp only [hd, if_true] at h
    unfold dispatchStep at h
    cases hf : fetchInstr s with
    | none =>
      simp only [hf] at h
      exact .inr (.inl ⟨rfl, rfl, by simpa using h.symm⟩)
    | some i =>
      simp only [hf] at h
      exact .inr (.inr ⟨rfl, i, rfl, h⟩)

/-- The deposit of `run` changes the balance alone, or is refused (R32). -/
theorem deposit_next {n : Int} {s t : State} (h : deposit n s = .next t) :
    balanceOk (s.cyclesAvailable + n) = true ∧ t = setCycles (s.cyclesAvailable + n) s := by
  unfold deposit at h
  split at h
  · rename_i hb
    exact ⟨hb, by simpa using h.symm⟩
  · cases h

/-- Placing bytes from outside keeps memory canonical. -/
theorem placeBytes_wf {m : Memory} (h : m.wf = true) (a : Addr) (vs : List Byte) : (placeBytes a vs m).wf = true := by
  induction vs generalizing a m with
  | nil => exact h
  | cons v vs ih => exact ih (Memory.write_wf h a v) (a + 1)

end Sys2Proof.Machine
end

