-- ==== Sys2Proof/Laws/Run.lean ====
section
/-! SUPPORT. The loop of `run` (R130) and its fuel (log entry 16): where it stops, its one turn, and its end after the last
turn. -/

namespace Sys2Proof.Machine

/-- A CORE that cannot dispatch ends the loop at once, whatever fuel is left. -/
theorem runLoop_of_stopped {s : State} (h : canDispatch s = false) (fuel : Nat) : runLoop fuel s = .next (runCode s, s) := by
  cases fuel <;> simp [runLoop, h]

/-- One turn of the loop. -/
theorem runLoop_succ_of_step {s t : State} (hd : canDispatch s = true) (h : step s = .next t) (fuel : Nat) :
    runLoop (fuel + 1) s = runLoop fuel t := by
  simp [runLoop, hd, h]

/-- A deposit that fits changes the balance alone. -/
theorem deposit_of_ok {n : Int} {s : State} (h : balanceOk (s.cyclesAvailable + n) = true) :
    deposit n s = .next (setCycles (s.cyclesAvailable + n) s) := by
  simp [deposit, h]

/-- A `run` of a RUNNING CORE whose deposit fits is the loop with as much fuel as balance. -/
theorem run_of_ok {n : Int} {s : State} (hr : s.runState = .running) (h : balanceOk (s.cyclesAvailable + n) = true) :
    run n s = runLoop (s.cyclesAvailable + n).toNat (setCycles (s.cyclesAvailable + n) s) := by
  simp [run, hr, deposit_of_ok h]

end Sys2Proof.Machine
end

