-- ==== Sys2Proof/Machine/Assembler.lean ====
section
/-! DEFINITION. Assembler syntax (R78): an instruction as text. Hexadecimal digits are capitals, a branch is written
relative to its own opcode. Log entry 18. -/

namespace Sys2Proof.Machine

/-- The three letters of a mnemonic (R3, R78). -/
def mnemonicText : Mnemonic → String
  | .adc => "ADC" | .and => "AND" | .asl => "ASL" | .bcc => "BCC" | .bcs => "BCS" | .beq => "BEQ" | .bit => "BIT"
  | .bmi => "BMI" | .bne => "BNE" | .bpl => "BPL" | .brk => "BRK" | .bvc => "BVC" | .bvs => "BVS" | .clc => "CLC"
  | .cld => "CLD" | .cli => "CLI" | .clv => "CLV" | .cmp => "CMP" | .cpx => "CPX" | .cpy => "CPY" | .dec => "DEC"
  | .dex => "DEX" | .dey => "DEY" | .eor => "EOR" | .inc => "INC" | .inx => "INX" | .iny => "INY" | .jmp => "JMP"
  | .jsr => "JSR" | .lda => "LDA" | .ldx => "LDX" | .ldy => "LDY" | .lsr => "LSR" | .nop => "NOP" | .ora => "ORA"
  | .pha => "PHA" | .php => "PHP" | .pla => "PLA" | .plp => "PLP" | .rol => "ROL" | .ror => "ROR" | .rti => "RTI"
  | .rts => "RTS" | .sbc => "SBC" | .sec => "SEC" | .sed => "SED" | .sei => "SEI" | .sta => "STA" | .stx => "STX"
  | .sty => "STY" | .tax => "TAX" | .tay => "TAY" | .tsx => "TSX" | .txa => "TXA" | .txs => "TXS" | .tya => "TYA"

/-- One hexadecimal digit. -/
def hexDigit (n : Nat) : Char := "0123456789ABCDEF".toList.getD (n % 16) '0'

/-- A byte as two hexadecimal digits after the dollar sign that marks them (R78). -/
def hexByte (b : Byte) : String := String.ofList ['$', hexDigit (b.toNat / 16), hexDigit b.toNat]

/-- A word as four hexadecimal digits after the dollar sign. -/
def hexWord (hi lo : Byte) : String :=
  String.ofList ['$', hexDigit (hi.toNat / 16), hexDigit hi.toNat, hexDigit (lo.toNat / 16), hexDigit lo.toNat]

/-- A branch operand (R78): `*+n`, n relative to the branch opcode, so 2 more than the displacement. -/
def relText (disp : Byte) : String :=
  let n := disp.toInt + 2
  if 0 ≤ n then "*+" ++ Nat.repr n.natAbs else "*-" ++ Nat.repr n.natAbs

/-- The operand text of a mode (R78), a space before it when there is one. -/
def operandText (mode : AddrMode) (lo hi : Byte) : String :=
  match mode with
  | .imp => ""
  | .acc => " A"
  | .imm => " #" ++ hexByte lo
  | .zp => " " ++ hexByte lo
  | .zpx => " " ++ hexByte lo ++ ",X"
  | .zpy => " " ++ hexByte lo ++ ",Y"
  | .abs => " " ++ hexWord hi lo
  | .abx => " " ++ hexWord hi lo ++ ",X"
  | .aby => " " ++ hexWord hi lo ++ ",Y"
  | .ind => " (" ++ hexWord hi lo ++ ")"
  | .izx => " (" ++ hexByte lo ++ ",X)"
  | .izy => " (" ++ hexByte lo ++ "),Y"
  | .rel => " " ++ relText lo

/-- An instruction in assembler syntax (R78). -/
def assemblerText (i : Instr) : String :=
  mnemonicText i.mnemonic ++ operandText i.mode ((operandBytes i).getD 0 0) ((operandBytes i).getD 1 0)

end Sys2Proof.Machine
end

