-- ==== Sys2Proof/Tests/Slice0.lean ====
section
/-! SUPPORT. The model's own tests: the well-formedness smoke, a written-out word of every instruction, single steps whose
expected results are the vectors of 95_test_vectors.md, and a witness for every statement that has hypotheses. -/

namespace Sys2Proof.Tests

open Sys2Proof.Machine Sys2Proof.Spec

/-! ### Well-formedness: RTI where the CORE does not implement it is the one ill-formed term (R252, 92 D1) -/

theorem test_rti_ill_formed_without_it : wellFormedFor false .rti = false := by decide
theorem test_rti_well_formed_here : wellFormed .rti = true := by decide
theorem test_others_well_formed : wellFormedFor false (.ldaImm 0xFF) = true := by decide

/-! ### Decoding: a word of every instruction (R71, R72, R73), operand bytes 34 then 12 -/

theorem test_decode_row_0 :
    decode [0x00] = .ok .brk [] ∧ decode [0x01, 0x34] = .ok (.oraIzx 0x34) [] ∧
      decode [0x05, 0x34] = .ok (.oraZp 0x34) [] ∧ decode [0x06, 0x34] = .ok (.aslZp 0x34) [] ∧
      decode [0x08] = .ok .php [] ∧ decode [0x09, 0x34] = .ok (.oraImm 0x34) [] ∧ decode [0x0A] = .ok .aslAcc [] ∧
      decode [0x0D, 0x34, 0x12] = .ok (.oraAbs 0x1234) [] ∧
      decode [0x0E, 0x34, 0x12] = .ok (.aslAbs 0x1234) [] := by
  decide

theorem test_decode_row_1 :
    decode [0x10, 0x34] = .ok (.bpl 0x34) [] ∧ decode [0x11, 0x34] = .ok (.oraIzy 0x34) [] ∧
      decode [0x15, 0x34] = .ok (.oraZpx 0x34) [] ∧ decode [0x16, 0x34] = .ok (.aslZpx 0x34) [] ∧
      decode [0x18] = .ok .clc [] ∧ decode [0x19, 0x34, 0x12] = .ok (.oraAby 0x1234) [] ∧
      decode [0x1D, 0x34, 0x12] = .ok (.oraAbx 0x1234) [] ∧
      decode [0x1E, 0x34, 0x12] = .ok (.aslAbx 0x1234) [] := by
  decide

theorem test_decode_row_2 :
    decode [0x20, 0x34, 0x12] = .ok (.jsr 0x1234) [] ∧ decode [0x21, 0x34] = .ok (.andIzx 0x34) [] ∧
      decode [0x24, 0x34] = .ok (.bitZp 0x34) [] ∧ decode [0x25, 0x34] = .ok (.andZp 0x34) [] ∧
      decode [0x26, 0x34] = .ok (.rolZp 0x34) [] ∧ decode [0x28] = .ok .plp [] ∧
      decode [0x29, 0x34] = .ok (.andImm 0x34) [] ∧ decode [0x2A] = .ok .rolAcc [] ∧
      decode [0x2C, 0x34, 0x12] = .ok (.bitAbs 0x1234) [] ∧ decode [0x2D, 0x34, 0x12] = .ok (.andAbs 0x1234) [] ∧
      decode [0x2E, 0x34, 0x12] = .ok (.rolAbs 0x1234) [] := by
  decide

theorem test_decode_row_3 :
    decode [0x30, 0x34] = .ok (.bmi 0x34) [] ∧ decode [0x31, 0x34] = .ok (.andIzy 0x34) [] ∧
      decode [0x35, 0x34] = .ok (.andZpx 0x34) [] ∧ decode [0x36, 0x34] = .ok (.rolZpx 0x34) [] ∧
      decode [0x38] = .ok .sec [] ∧ decode [0x39, 0x34, 0x12] = .ok (.andAby 0x1234) [] ∧
      decode [0x3D, 0x34, 0x12] = .ok (.andAbx 0x1234) [] ∧
      decode [0x3E, 0x34, 0x12] = .ok (.rolAbx 0x1234) [] := by
  decide

theorem test_decode_row_4 :
    decode [0x40] = .ok .rti [] ∧ decode [0x41, 0x34] = .ok (.eorIzx 0x34) [] ∧
      decode [0x45, 0x34] = .ok (.eorZp 0x34) [] ∧ decode [0x46, 0x34] = .ok (.lsrZp 0x34) [] ∧
      decode [0x48] = .ok .pha [] ∧ decode [0x49, 0x34] = .ok (.eorImm 0x34) [] ∧ decode [0x4A] = .ok .lsrAcc [] ∧
      decode [0x4C, 0x34, 0x12] = .ok (.jmpAbs 0x1234) [] ∧ decode [0x4D, 0x34, 0x12] = .ok (.eorAbs 0x1234) [] ∧
      decode [0x4E, 0x34, 0x12] = .ok (.lsrAbs 0x1234) [] := by
  decide

theorem test_decode_row_5 :
    decode [0x50, 0x34] = .ok (.bvc 0x34) [] ∧ decode [0x51, 0x34] = .ok (.eorIzy 0x34) [] ∧
      decode [0x55, 0x34] = .ok (.eorZpx 0x34) [] ∧ decode [0x56, 0x34] = .ok (.lsrZpx 0x34) [] ∧
      decode [0x58] = .ok .cli [] ∧ decode [0x59, 0x34, 0x12] = .ok (.eorAby 0x1234) [] ∧
      decode [0x5D, 0x34, 0x12] = .ok (.eorAbx 0x1234) [] ∧
      decode [0x5E, 0x34, 0x12] = .ok (.lsrAbx 0x1234) [] := by
  decide

theorem test_decode_row_6 :
    decode [0x60] = .ok .rts [] ∧ decode [0x61, 0x34] = .ok (.adcIzx 0x34) [] ∧
      decode [0x65, 0x34] = .ok (.adcZp 0x34) [] ∧ decode [0x66, 0x34] = .ok (.rorZp 0x34) [] ∧
      decode [0x68] = .ok .pla [] ∧ decode [0x69, 0x34] = .ok (.adcImm 0x34) [] ∧ decode [0x6A] = .ok .rorAcc [] ∧
      decode [0x6C, 0x34, 0x12] = .ok (.jmpInd 0x1234) [] ∧ decode [0x6D, 0x34, 0x12] = .ok (.adcAbs 0x1234) [] ∧
      decode [0x6E, 0x34, 0x12] = .ok (.rorAbs 0x1234) [] := by
  decide

theorem test_decode_row_7 :
    decode [0x70, 0x34] = .ok (.bvs 0x34) [] ∧ decode [0x71, 0x34] = .ok (.adcIzy 0x34) [] ∧
      decode [0x75, 0x34] = .ok (.adcZpx 0x34) [] ∧ decode [0x76, 0x34] = .ok (.rorZpx 0x34) [] ∧
      decode [0x78] = .ok .sei [] ∧ decode [0x79, 0x34, 0x12] = .ok (.adcAby 0x1234) [] ∧
      decode [0x7D, 0x34, 0x12] = .ok (.adcAbx 0x1234) [] ∧
      decode [0x7E, 0x34, 0x12] = .ok (.rorAbx 0x1234) [] := by
  decide

theorem test_decode_row_8 :
    decode [0x81, 0x34] = .ok (.staIzx 0x34) [] ∧ decode [0x84, 0x34] = .ok (.styZp 0x34) [] ∧
      decode [0x85, 0x34] = .ok (.staZp 0x34) [] ∧ decode [0x86, 0x34] = .ok (.stxZp 0x34) [] ∧
      decode [0x88] = .ok .dey [] ∧ decode [0x8A] = .ok .txa [] ∧
      decode [0x8C, 0x34, 0x12] = .ok (.styAbs 0x1234) [] ∧ decode [0x8D, 0x34, 0x12] = .ok (.staAbs 0x1234) [] ∧
      decode [0x8E, 0x34, 0x12] = .ok (.stxAbs 0x1234) [] := by
  decide

theorem test_decode_row_9 :
    decode [0x90, 0x34] = .ok (.bcc 0x34) [] ∧ decode [0x91, 0x34] = .ok (.staIzy 0x34) [] ∧
      decode [0x94, 0x34] = .ok (.styZpx 0x34) [] ∧ decode [0x95, 0x34] = .ok (.staZpx 0x34) [] ∧
      decode [0x96, 0x34] = .ok (.stxZpy 0x34) [] ∧ decode [0x98] = .ok .tya [] ∧
      decode [0x99, 0x34, 0x12] = .ok (.staAby 0x1234) [] ∧ decode [0x9A] = .ok .txs [] ∧
      decode [0x9D, 0x34, 0x12] = .ok (.staAbx 0x1234) [] := by
  decide

theorem test_decode_row_A :
    decode [0xA0, 0x34] = .ok (.ldyImm 0x34) [] ∧ decode [0xA1, 0x34] = .ok (.ldaIzx 0x34) [] ∧
      decode [0xA2, 0x34] = .ok (.ldxImm 0x34) [] ∧ decode [0xA4, 0x34] = .ok (.ldyZp 0x34) [] ∧
      decode [0xA5, 0x34] = .ok (.ldaZp 0x34) [] ∧ decode [0xA6, 0x34] = .ok (.ldxZp 0x34) [] ∧
      decode [0xA8] = .ok .tay [] ∧ decode [0xA9, 0x34] = .ok (.ldaImm 0x34) [] ∧ decode [0xAA] = .ok .tax [] ∧
      decode [0xAC, 0x34, 0x12] = .ok (.ldyAbs 0x1234) [] ∧ decode [0xAD, 0x34, 0x12] = .ok (.ldaAbs 0x1234) [] ∧
      decode [0xAE, 0x34, 0x12] = .ok (.ldxAbs 0x1234) [] := by
  decide

theorem test_decode_row_B :
    decode [0xB0, 0x34] = .ok (.bcs 0x34) [] ∧ decode [0xB1, 0x34] = .ok (.ldaIzy 0x34) [] ∧
      decode [0xB4, 0x34] = .ok (.ldyZpx 0x34) [] ∧ decode [0xB5, 0x34] = .ok (.ldaZpx 0x34) [] ∧
      decode [0xB6, 0x34] = .ok (.ldxZpy 0x34) [] ∧ decode [0xB8] = .ok .clv [] ∧
      decode [0xB9, 0x34, 0x12] = .ok (.ldaAby 0x1234) [] ∧ decode [0xBA] = .ok .tsx [] ∧
      decode [0xBC, 0x34, 0x12] = .ok (.ldyAbx 0x1234) [] ∧ decode [0xBD, 0x34, 0x12] = .ok (.ldaAbx 0x1234) [] ∧
      decode [0xBE, 0x34, 0x12] = .ok (.ldxAby 0x1234) [] := by
  decide

theorem test_decode_row_C :
    decode [0xC0, 0x34] = .ok (.cpyImm 0x34) [] ∧ decode [0xC1, 0x34] = .ok (.cmpIzx 0x34) [] ∧
      decode [0xC4, 0x34] = .ok (.cpyZp 0x34) [] ∧ decode [0xC5, 0x34] = .ok (.cmpZp 0x34) [] ∧
      decode [0xC6, 0x34] = .ok (.decZp 0x34) [] ∧ decode [0xC8] = .ok .iny [] ∧
      decode [0xC9, 0x34] = .ok (.cmpImm 0x34) [] ∧ decode [0xCA] = .ok .dex [] ∧
      decode [0xCC, 0x34, 0x12] = .ok (.cpyAbs 0x1234) [] ∧ decode [0xCD, 0x34, 0x12] = .ok (.cmpAbs 0x1234) [] ∧
      decode [0xCE, 0x34, 0x12] = .ok (.decAbs 0x1234) [] := by
  decide

theorem test_decode_row_D :
    decode [0xD0, 0x34] = .ok (.bne 0x34) [] ∧ decode [0xD1, 0x34] = .ok (.cmpIzy 0x34) [] ∧
      decode [0xD5, 0x34] = .ok (.cmpZpx 0x34) [] ∧ decode [0xD6, 0x34] = .ok (.decZpx 0x34) [] ∧
      decode [0xD8] = .ok .cld [] ∧ decode [0xD9, 0x34, 0x12] = .ok (.cmpAby 0x1234) [] ∧
      decode [0xDD, 0x34, 0x12] = .ok (.cmpAbx 0x1234) [] ∧
      decode [0xDE, 0x34, 0x12] = .ok (.decAbx 0x1234) [] := by
  decide

theorem test_decode_row_E :
    decode [0xE0, 0x34] = .ok (.cpxImm 0x34) [] ∧ decode [0xE1, 0x34] = .ok (.sbcIzx 0x34) [] ∧
      decode [0xE4, 0x34] = .ok (.cpxZp 0x34) [] ∧ decode [0xE5, 0x34] = .ok (.sbcZp 0x34) [] ∧
      decode [0xE6, 0x34] = .ok (.incZp 0x34) [] ∧ decode [0xE8] = .ok .inx [] ∧
      decode [0xE9, 0x34] = .ok (.sbcImm 0x34) [] ∧ decode [0xEA] = .ok .nop [] ∧
      decode [0xEC, 0x34, 0x12] = .ok (.cpxAbs 0x1234) [] ∧ decode [0xED, 0x34, 0x12] = .ok (.sbcAbs 0x1234) [] ∧
      decode [0xEE, 0x34, 0x12] = .ok (.incAbs 0x1234) [] := by
  decide

theorem test_decode_row_F :
    decode [0xF0, 0x34] = .ok (.beq 0x34) [] ∧ decode [0xF1, 0x34] = .ok (.sbcIzy 0x34) [] ∧
      decode [0xF5, 0x34] = .ok (.sbcZpx 0x34) [] ∧ decode [0xF6, 0x34] = .ok (.incZpx 0x34) [] ∧
      decode [0xF8] = .ok .sed [] ∧ decode [0xF9, 0x34, 0x12] = .ok (.sbcAby 0x1234) [] ∧
      decode [0xFD, 0x34, 0x12] = .ok (.sbcAbx 0x1234) [] ∧
      decode [0xFE, 0x34, 0x12] = .ok (.incAbx 0x1234) [] := by
  decide

/-- R74, R75, R76: an unknown byte, and a word cut short. -/
theorem test_decode_refuses :
    decode [0xFF] = .unknownOpcode 0xFF ∧ decode [0x6C, 0x00] = .truncated ∧ decode [] = .truncated := by
  decide

/-- R71, R72: the bytes of instructions of one, two and three bytes, the word's low byte first. -/
theorem test_encode_words :
    encode (.jmpAbs 0x1234) = [0x4C, 0x34, 0x12] ∧ encode (.bne 0xF8) = [0xD0, 0xF8] ∧ encode .tax = [0xAA] := by
  decide

/-- R78: the syntax the spec's table shows, mode by mode. -/
theorem test_assembler_syntax :
    assemblerText .clc = "CLC" ∧ assemblerText .aslAcc = "ASL A" ∧ assemblerText (.ldaImm 0xC0) = "LDA #$C0" ∧
      assemblerText (.ldaZp 0x12) = "LDA $12" ∧ assemblerText (.ldaZpx 0x12) = "LDA $12,X" ∧
      assemblerText (.ldxZpy 0x12) = "LDX $12,Y" ∧ assemblerText (.ldaAbs 0x1234) = "LDA $1234" := by
  decide

theorem test_assembler_syntax_indirect :
    assemblerText (.ldaAbx 0x1234) = "LDA $1234,X" ∧ assemblerText (.ldaAby 0x1234) = "LDA $1234,Y" ∧
      assemblerText (.jmpInd 0x1234) = "JMP ($1234)" ∧ assemblerText (.ldaIzx 0x12) = "LDA ($12,X)" ∧
      assemblerText (.ldaIzy 0x12) = "LDA ($12),Y" ∧ assemblerText (.bne 0xF8) = "BNE *-6" := by
  decide

/-! ### Single steps: the vectors of 95_test_vectors.md. The instruction stands at 0400 unless said; 7 cycles are there -/

/-- The start state of the vectors: bytes at an address, data elsewhere, a balance of 7. -/
def placed (pc : Addr) (bytes : List Byte) (data : List (Addr × List Byte)) : State :=
  { State.reset with
    pc := pc
    cyclesAvailable := 7
    mem := placeBytes pc bytes (data.foldl (fun m d => placeBytes d.1 d.2 m) []) }

/-- What a step from a state answers, seen through a view. -/
def after {α : Type} (s : State) (view : State → α) : Option α :=
  match step s with
  | .next t => some (view t)
  | .fault _ => none
  | .refused _ => none

/-- The flags N, V, Z and C. -/
def nvzc (t : State) : List Nat := [t.flags.n.toNat, t.flags.v.toNat, t.flags.z.toNat, t.flags.c.toNat]

/-- The cycles charged by a step from `placed`. -/
def spent (t : State) : Int := 7 - t.cyclesAvailable

/-- Flags written as in the vectors. -/
def fl (b : Byte) : Flags := unpack b

/-- 95 3.1. -/
theorem test_lda_zpx_wraps :
    after { placed 0x0400 [0xB5, 0xF0] [(0x0010, [0x99])] with x := 0x20 }
      (fun t => (t.a, nvzc t, t.pc, spent t, t.bus)) =
      some ((0x99 : Byte), [1, 0, 0, 0], (0x0402 : Addr), (4 : Int),
        [.read 0x0400, .read 0x0401, .read 0x0010]) := by
  decide

/-- 95 3.1. -/
theorem test_lda_abx_crosses :
    after { placed 0x0400 [0xBD, 0xF0, 0x02] [(0x0310, [0x02])] with x := 0x20 }
      (fun t => (t.a, spent t, t.bus)) =
      some ((0x02 : Byte), (5 : Int), [.read 0x0400, .read 0x0401, .read 0x0402, .read 0x0310]) := by
  decide

/-- 95 3.1. -/
theorem test_lda_aby_wraps_memory :
    after { placed 0x0400 [0xB9, 0xF0, 0xFF] [(0x0010, [0x80])] with y := 0x20 }
      (fun t => (t.a, spent t, t.bus)) =
      some ((0x80 : Byte), (5 : Int), [.read 0x0400, .read 0x0401, .read 0x0402, .read 0x0010]) := by
  decide

/-- 95 3.1. -/
theorem test_lda_izx_pointer_wraps :
    after { placed 0x0400 [0xA1, 0xFE] [(0x00FF, [0x34]), (0x0000, [0x12]), (0x1234, [0x00])] with a := 1, x := 0x01 }
      (fun t => (t.a, nvzc t, spent t, t.bus)) =
      some ((0x00 : Byte), [0, 0, 1, 0], (6 : Int),
        [.read 0x0400, .read 0x0401, .read 0x00FF, .read 0x0000, .read 0x1234]) := by
  decide

/-- 95 3.1. -/
theorem test_lda_izy_crosses :
    after { placed 0x0400 [0xB1, 0x10] [(0x0010, [0xF0, 0x02]), (0x0310, [0x42])] with y := 0x20 }
      (fun t => (t.a, spent t, t.pageCrossed)) =
      some ((0x42 : Byte), (6 : Int), true) := by
  decide

/-- 95 3.1. -/
theorem test_lda_izy_pointer_at_ff :
    after (placed 0x0400 [0xB1, 0xFF] [(0x00FF, [0x00]), (0x0000, [0x05]), (0x0500, [0xAA])])
      (fun t => (t.a, spent t, t.bus)) =
      some ((0xAA : Byte), (5 : Int),
        [.read 0x0400, .read 0x0401, .read 0x00FF, .read 0x0000, .read 0x0500]) := by
  decide

/-- 95 3.1. -/
theorem test_lda_imm_zero :
    after { placed 0x0400 [0xA9, 0x00] [] with a := 5 }
      (fun t => (t.a, nvzc t, spent t, t.bus)) =
      some ((0x00 : Byte), [0, 0, 1, 0], (2 : Int), [.read 0x0400, .read 0x0401]) := by
  decide

/-- 95 3.1. -/
theorem test_ldx_zpy_wraps :
    after { placed 0x0400 [0xB6, 0xFF] [(0x0001, [0x00])] with y := 0x02, x := 7 }
      (fun t => (t.x, nvzc t, spent t, t.bus)) =
      some ((0x00 : Byte), [0, 0, 1, 0], (4 : Int), [.read 0x0400, .read 0x0401, .read 0x0001]) := by
  decide

/-- 95 3.1. -/
theorem test_ldx_aby_crosses :
    after { placed 0x0400 [0xBE, 0xFF, 0x10] [(0x1100, [0x80])] with y := 0x01 }
      (fun t => (t.x, nvzc t, spent t)) =
      some ((0x80 : Byte), [1, 0, 0, 0], (5 : Int)) := by
  decide

/-- 95 3.1. -/
theorem test_ldy_abx_crosses :
    after { placed 0x0400 [0xBC, 0xFF, 0x10] [(0x1100, [0x33])] with x := 0x01 }
      (fun t => (t.y, spent t)) =
      some ((0x33 : Byte), (5 : Int)) := by
  decide

/-- 95 3.2. -/
theorem test_sta_abx_crosses :
    after { placed 0x0400 [0x9D, 0xF0, 0x02] [] with a := 0x55, x := 0x20 }
      (fun t => (busRead 0x0310 t, spent t, t.bus)) =
      some ((0x55 : Byte), (5 : Int), [.read 0x0400, .read 0x0401, .read 0x0402, .write 0x0310 0x55]) := by
  decide

/-- 95 3.2. -/
theorem test_sta_izy_crosses :
    after { placed 0x0400 [0x91, 0x10] [(0x0010, [0xF0, 0x02])] with a := 0x66, y := 0x20 }
      (fun t => (busRead 0x0310 t, spent t, t.bus)) =
      some ((0x66 : Byte), (6 : Int),
        [.read 0x0400, .read 0x0401, .read 0x0010, .read 0x0011, .write 0x0310 0x66]) := by
  decide

/-- 95 3.2. -/
theorem test_stx_zpy_wraps :
    after { placed 0x0400 [0x96, 0xFE] [] with x := 0x77, y := 0x03 }
      (fun t => (busRead 0x0001 t, spent t)) =
      some ((0x77 : Byte), (4 : Int)) := by
  decide

/-- 95 3.2. -/
theorem test_sty_zpx_wraps :
    after { placed 0x0400 [0x94, 0x80] [] with y := 0x7F, x := 0x80 }
      (fun t => (busRead 0x0000 t, spent t)) =
      some ((0x7F : Byte), (4 : Int)) := by
  decide

/-- 95 3.2. -/
theorem test_sta_abs :
    after { placed 0x0400 [0x8D, 0x00, 0x02] [] with a := 0x01 }
      (fun t => (busRead 0x0200 t, pack t.flags, spent t)) =
      some ((0x01 : Byte), (0x20 : Byte), (4 : Int)) := by
  decide

/-- 95 3.3. -/
theorem test_adc_overflow :
    after { placed 0x0400 [0x69, 0x01] [] with a := 0x7F }
      (fun t => (t.a, nvzc t)) =
      some ((0x80 : Byte), [1, 1, 0, 0]) := by
  decide

/-- 95 3.3. -/
theorem test_adc_scenario_s2 :
    after { placed 0x0400 [0x69, 0xC4] [] with a := 0xC0 }
      (fun t => (t.a, nvzc t)) =
      some ((0x84 : Byte), [1, 0, 0, 1]) := by
  decide

/-- 95 3.3. -/
theorem test_adc_decimal_ignored :
    after { placed 0x0400 [0x69, 0x01] [] with a := 0xFF, flags := fl 0x08 }
      (fun t => (t.a, nvzc t)) =
      some ((0x00 : Byte), [0, 0, 1, 1]) := by
  decide

/-- 95 3.3. -/
theorem test_sbc_borrow :
    after { placed 0x0400 [0xE9, 0x01] [] with flags := fl 0x01 }
      (fun t => (t.a, nvzc t)) =
      some ((0xFF : Byte), [1, 0, 0, 0]) := by
  decide

/-- 95 3.3. -/
theorem test_sbc_overflow :
    after { placed 0x0400 [0xE9, 0x01] [] with a := 0x80, flags := fl 0x01 }
      (fun t => (t.a, nvzc t)) =
      some ((0x7F : Byte), [0, 1, 0, 1]) := by
  decide

/-- 95 3.3. -/
theorem test_cmp_keeps_v :
    after { placed 0x0400 [0xC9, 0x80] [] with flags := fl 0x40 }
      (fun t => (t.a, nvzc t)) =
      some ((0x00 : Byte), [1, 1, 0, 0]) := by
  decide

/-- 95 3.3. -/
theorem test_cpx_equal :
    after { placed 0x0400 [0xE0, 0x03] [] with x := 0x03 }
      (fun t => (t.x, nvzc t, spent t)) =
      some ((0x03 : Byte), [0, 0, 1, 1], (2 : Int)) := by
  decide

/-- 95 3.3. -/
theorem test_cpy_less :
    after { placed 0x0400 [0xC0, 0x10] [] with y := 0x0F }
      (fun t => (t.y, nvzc t)) =
      some ((0x0F : Byte), [1, 0, 0, 0]) := by
  decide

/-- 95 3.3. -/
theorem test_bit_zp :
    after { placed 0x0400 [0x24, 0x10] [(0x0010, [0xC0])] with a := 0x3F }
      (fun t => (t.a, pack t.flags, spent t)) =
      some ((0x3F : Byte), (0xE2 : Byte), (3 : Int)) := by
  decide

/-- 95 3.3. -/
theorem test_bit_abs :
    after { placed 0x0400 [0x2C, 0x00, 0x02] [(0x0200, [0x41])] with a := 0x01 }
      (fun t => (pack t.flags, spent t)) =
      some ((0x60 : Byte), (4 : Int)) := by
  decide

/-- 95 3.4. -/
theorem test_and_imm :
    after { placed 0x0400 [0x29, 0x0F] [] with a := 0xF0 }
      (fun t => (t.a, nvzc t)) =
      some ((0x00 : Byte), [0, 0, 1, 0]) := by
  decide

/-- 95 3.4. -/
theorem test_ora_zp :
    after (placed 0x0400 [0x05, 0x10] [])
      (fun t => (t.a, nvzc t, spent t)) =
      some ((0x00 : Byte), [0, 0, 1, 0], (3 : Int)) := by
  decide

/-- 95 3.4. -/
theorem test_ora_imm :
    after { placed 0x0400 [0x09, 0x80] [] with a := 0x01 }
      (fun t => (t.a, nvzc t)) =
      some ((0x81 : Byte), [1, 0, 0, 0]) := by
  decide

/-- 95 3.4. -/
theorem test_eor_imm :
    after { placed 0x0400 [0x49, 0x0F] [] with a := 0xF0 }
      (fun t => (t.a, nvzc t)) =
      some ((0xFF : Byte), [1, 0, 0, 0]) := by
  decide

/-- 95 3.4. -/
theorem test_inc_abx_crosses :
    after { placed 0x0400 [0xFE, 0xF0, 0x02] [(0x0310, [0xFF])] with x := 0x20 }
      (fun t => (busRead 0x0310 t, nvzc t, spent t, t.bus)) =
      some ((0x00 : Byte), [0, 0, 1, 0], (7 : Int),
        [.read 0x0400, .read 0x0401, .read 0x0402, .read 0x0310, .write 0x0310 0x00]) := by
  decide

/-- 95 3.4. -/
theorem test_dec_zp_wraps :
    after (placed 0x0400 [0xC6, 0x10] [(0x0010, [0x00])])
      (fun t => (busRead 0x0010 t, nvzc t, spent t)) =
      some ((0xFF : Byte), [1, 0, 0, 0], (5 : Int)) := by
  decide

/-- 95 3.4. -/
theorem test_inx_wraps :
    after { placed 0x0400 [0xE8] [] with x := 0xFF }
      (fun t => (t.x, nvzc t, spent t)) =
      some ((0x00 : Byte), [0, 0, 1, 0], (2 : Int)) := by
  decide

/-- 95 3.4. -/
theorem test_iny :
    after { placed 0x0400 [0xC8] [] with y := 0x7F }
      (fun t => (t.y, nvzc t)) =
      some ((0x80 : Byte), [1, 0, 0, 0]) := by
  decide

/-- 95 3.4. -/
theorem test_dex :
    after { placed 0x0400 [0xCA] [] with x := 0x01 }
      (fun t => (t.x, nvzc t)) =
      some ((0x00 : Byte), [0, 0, 1, 0]) := by
  decide

/-- 95 3.4. -/
theorem test_dey_wraps :
    after (placed 0x0400 [0x88] [])
      (fun t => (t.y, nvzc t)) =
      some ((0xFF : Byte), [1, 0, 0, 0]) := by
  decide

/-- 95 3.5. -/
theorem test_asl_acc :
    after { placed 0x0400 [0x0A] [] with a := 0x81 }
      (fun t => (t.a, nvzc t, spent t)) =
      some ((0x02 : Byte), [0, 0, 0, 1], (2 : Int)) := by
  decide

/-- 95 3.5. -/
theorem test_asl_abs :
    after (placed 0x0400 [0x0E, 0x00, 0x02] [(0x0200, [0xC1])])
      (fun t => (busRead 0x0200 t, nvzc t, spent t)) =
      some ((0x82 : Byte), [1, 0, 0, 1], (6 : Int)) := by
  decide

/-- 95 3.5. -/
theorem test_lsr_zpx :
    after { placed 0x0400 [0x56, 0x10] [(0x0011, [0x01])] with x := 0x01 }
      (fun t => (busRead 0x0011 t, nvzc t, spent t)) =
      some ((0x00 : Byte), [0, 0, 1, 1], (6 : Int)) := by
  decide

/-- 95 3.5. -/
theorem test_rol_abx :
    after { placed 0x0400 [0x3E, 0x00, 0x02] [(0x0200, [0x80])] with flags := fl 0x01 }
      (fun t => (busRead 0x0200 t, nvzc t, spent t)) =
      some ((0x01 : Byte), [0, 0, 0, 1], (7 : Int)) := by
  decide

/-- 95 3.5. -/
theorem test_ror_zp :
    after { placed 0x0400 [0x66, 0x10] [(0x0010, [0x01])] with flags := fl 0x01 }
      (fun t => (busRead 0x0010 t, nvzc t, spent t)) =
      some ((0x80 : Byte), [1, 0, 0, 1], (5 : Int)) := by
  decide

/-- 95 3.5. -/
theorem test_ror_acc :
    after { placed 0x0400 [0x6A] [] with a := 0x01 }
      (fun t => (t.a, nvzc t, spent t)) =
      some ((0x00 : Byte), [0, 0, 1, 1], (2 : Int)) := by
  decide

/-- 95 3.6. -/
theorem test_tax :
    after { placed 0x0400 [0xAA] [] with a := 0xC0 }
      (fun t => (t.x, nvzc t, spent t)) =
      some ((0xC0 : Byte), [1, 0, 0, 0], (2 : Int)) := by
  decide

/-- 95 3.6. -/
theorem test_tay_leaves_x :
    after { placed 0x0400 [0xA8] [] with x := 0x55, y := 1 }
      (fun t => (t.y, t.x, nvzc t)) =
      some ((0x00 : Byte), (0x55 : Byte), [0, 0, 1, 0]) := by
  decide

/-- 95 3.6. -/
theorem test_txa :
    after { placed 0x0400 [0x8A] [] with a := 9 }
      (fun t => (t.a, nvzc t)) =
      some ((0x00 : Byte), [0, 0, 1, 0]) := by
  decide

/-- 95 3.6. -/
theorem test_tya :
    after { placed 0x0400 [0x98] [] with y := 0x80 }
      (fun t => (t.a, nvzc t)) =
      some ((0x80 : Byte), [1, 0, 0, 0]) := by
  decide

/-- 95 3.6. -/
theorem test_tsx :
    after { placed 0x0400 [0xBA] [] with sp := 0xFD }
      (fun t => (t.x, nvzc t)) =
      some ((0xFD : Byte), [1, 0, 0, 0]) := by
  decide

/-- 95 3.6. -/
theorem test_txs_no_flags :
    after { placed 0x0400 [0x9A] [] with flags := fl 0x80 }
      (fun t => (t.sp, pack t.flags)) =
      some ((0x00 : Byte), (0xA0 : Byte)) := by
  decide

/-- 95 3.6. -/
theorem test_sed :
    after (placed 0x0400 [0xF8] [])
      (fun t => (pack t.flags, spent t)) =
      some ((0x28 : Byte), (2 : Int)) := by
  decide

/-- 95 3.6. -/
theorem test_cld :
    after { placed 0x0400 [0xD8] [] with flags := fl 0xFF }
      (fun t => (pack t.flags)) =
      some ((0xF7 : Byte)) := by
  decide

/-- 95 3.6. -/
theorem test_clv :
    after { placed 0x0400 [0xB8] [] with flags := fl 0xFF }
      (fun t => (pack t.flags)) =
      some ((0xBF : Byte)) := by
  decide

/-- 95 3.6. -/
theorem test_sec :
    after (placed 0x0400 [0x38] [])
      (fun t => (pack t.flags)) =
      some ((0x21 : Byte)) := by
  decide

/-- 95 3.6. -/
theorem test_clc :
    after { placed 0x0400 [0x18] [] with flags := fl 0xFF }
      (fun t => (pack t.flags)) =
      some ((0xFE : Byte)) := by
  decide

/-- 95 3.6. -/
theorem test_sei :
    after (placed 0x0400 [0x78] [])
      (fun t => (pack t.flags)) =
      some ((0x24 : Byte)) := by
  decide

/-- 95 3.6. -/
theorem test_cli :
    after { placed 0x0400 [0x58] [] with flags := fl 0xFF }
      (fun t => (pack t.flags)) =
      some ((0xFB : Byte)) := by
  decide

/-- 95 3.6. -/
theorem test_nop :
    after (placed 0x0400 [0xEA] [])
      (fun t => (t.pc, pack t.flags, spent t)) =
      some ((0x0401 : Addr), (0x20 : Byte), (2 : Int)) := by
  decide

/-- 95 3.7. -/
theorem test_bne_back :
    after (placed 0x0008 [0xD0, 0xF8] [])
      (fun t => (t.pc, spent t)) =
      some ((0x0002 : Addr), (3 : Int)) := by
  decide

/-- 95 3.7. -/
theorem test_bne_untaken :
    after { placed 0x0008 [0xD0, 0xF8] [] with flags := fl 0x02 }
      (fun t => (t.pc, spent t)) =
      some ((0x000A : Addr), (2 : Int)) := by
  decide

/-- 95 3.7. -/
theorem test_beq_crosses :
    after { placed 0x00F0 [0xF0, 0x20] [] with flags := fl 0x02 }
      (fun t => (t.pc, spent t)) =
      some ((0x0112 : Addr), (4 : Int)) := by
  decide

/-- 95 3.7. -/
theorem test_beq_next_page_no_cross :
    after { placed 0x00FE [0xF0, 0x00] [] with flags := fl 0x02 }
      (fun t => (t.pc, spent t)) =
      some ((0x0100 : Addr), (3 : Int)) := by
  decide

/-- 95 3.7. -/
theorem test_bpl_wraps_up :
    after (placed 0xFFFE [0x10, 0x05] [])
      (fun t => (t.pc, spent t)) =
      some ((0x0005 : Addr), (3 : Int)) := by
  decide

/-- 95 3.7. -/
theorem test_bpl_wraps_down :
    after (placed 0x0000 [0x10, 0x80] [])
      (fun t => (t.pc, spent t)) =
      some ((0xFF82 : Addr), (4 : Int)) := by
  decide

/-- 95 3.7. -/
theorem test_bcc :
    after (placed 0x0300 [0x90, 0x02] [])
      (fun t => (t.pc, spent t)) =
      some ((0x0304 : Addr), (3 : Int)) := by
  decide

/-- 95 3.7. -/
theorem test_bcs_untaken :
    after (placed 0x0300 [0xB0, 0x02] [])
      (fun t => (t.pc, spent t)) =
      some ((0x0302 : Addr), (2 : Int)) := by
  decide

/-- 95 3.7. -/
theorem test_bmi :
    after { placed 0x0210 [0x30, 0xFC] [] with flags := fl 0x80 }
      (fun t => (t.pc, spent t)) =
      some ((0x020E : Addr), (3 : Int)) := by
  decide

/-- 95 3.7. -/
theorem test_bvc_untaken :
    after { placed 0x0400 [0x50, 0x10] [] with flags := fl 0x40 }
      (fun t => (t.pc, spent t)) =
      some ((0x0402 : Addr), (2 : Int)) := by
  decide

/-- 95 3.7. -/
theorem test_bvs :
    after { placed 0x0400 [0x70, 0x10] [] with flags := fl 0x40 }
      (fun t => (t.pc, spent t)) =
      some ((0x0412 : Addr), (3 : Int)) := by
  decide

/-- 95 3.8. -/
theorem test_jmp_abs :
    after (placed 0x0400 [0x4C, 0x34, 0x12] [])
      (fun t => (t.pc, spent t, t.bus)) =
      some ((0x1234 : Addr), (3 : Int), [.read 0x0400, .read 0x0401, .read 0x0402]) := by
  decide

/-- 95 3.8. -/
theorem test_jmp_ind_no_page_wrap :
    after (placed 0x0400 [0x6C, 0xFF, 0x02] [(0x02FF, [0x00, 0x80]), (0x0200, [0x40])])
      (fun t => (t.pc, spent t, t.bus)) =
      some ((0x8000 : Addr), (5 : Int),
        [.read 0x0400, .read 0x0401, .read 0x0402, .read 0x02FF, .read 0x0300]) := by
  decide

/-- 95 3.8. -/
theorem test_jsr :
    after (placed 0x0400 [0x20, 0x00, 0x10] [])
      (fun t => (t.pc, t.sp, spent t, t.bus)) =
      some ((0x1000 : Addr), (0xFD : Byte), (6 : Int),
        [.read 0x0400, .read 0x0401, .read 0x0402, .write 0x01FF 0x04, .write 0x01FE 0x02]) := by
  decide

/-- 95 3.8. -/
theorem test_jsr_wraps :
    after { placed 0xFFFE [0x20, 0x00, 0x80] [] with sp := 0 }
      (fun t => (t.pc, t.sp, t.bus.drop 3)) =
      some ((0x8000 : Addr), (0xFE : Byte), [.write 0x0100 0x00, .write 0x01FF 0x00]) := by
  decide

/-- 95 3.8. -/
theorem test_rts :
    after { placed 0x0400 [0x60] [(0x01FE, [0x02, 0x06])] with sp := 0xFD }
      (fun t => (t.pc, t.sp, spent t, t.bus)) =
      some ((0x0603 : Addr), (0xFF : Byte), (6 : Int), [.read 0x0400, .read 0x01FE, .read 0x01FF]) := by
  decide

/-- 95 3.8. -/
theorem test_rti :
    after { placed 0x0400 [0x40] [(0x01FD, [0xC3, 0x34, 0x12])] with sp := 0xFC }
      (fun t => (pack t.flags, t.pc, t.sp, spent t, t.bus)) =
      some ((0xE3 : Byte), (0x1234 : Addr), (0xFF : Byte), (6 : Int),
        [.read 0x0400, .read 0x01FD, .read 0x01FE, .read 0x01FF]) := by
  decide

/-- 95 3.8. -/
theorem test_brk :
    after { placed 0x0400 [0x00] [] with flags := fl 0x01 }
      (fun t => ((t.pc, t.sp, pack t.flags), (spent t, t.haltReason, t.bus))) =
      some (((0x0401 : Addr), (0xFC : Byte), (0x31 : Byte)), ((7 : Int), .brk,
        [.read 0x0400, .write 0x01FF 0x04, .write 0x01FE 0x01, .write 0x01FD 0x21])) := by
  decide

/-- 95 3.8. -/
theorem test_brk_stack_wraps :
    after { placed 0x0400 [0x00] [] with sp := 0x01 }
      (fun t => (t.sp, t.bus.drop 1)) =
      some ((0xFE : Byte), [.write 0x0101 0x04, .write 0x0100 0x01, .write 0x01FF 0x20]) := by
  decide

/-- 95 3.9. -/
theorem test_pha_wraps :
    after { placed 0x0400 [0x48] [] with sp := 0, a := 0x05 }
      (fun t => (busRead 0x0100 t, t.sp, spent t, t.bus)) =
      some ((0x05 : Byte), (0xFF : Byte), (3 : Int), [.read 0x0400, .write 0x0100 0x05]) := by
  decide

/-- 95 3.9. -/
theorem test_pla_wraps :
    after (placed 0x0400 [0x68] [(0x0100, [0x80])])
      (fun t => (t.a, nvzc t, t.sp, spent t, t.bus)) =
      some ((0x80 : Byte), [1, 0, 0, 0], (0x00 : Byte), (4 : Int), [.read 0x0400, .read 0x0100]) := by
  decide

/-- 95 3.9. -/
theorem test_php :
    after { placed 0x0400 [0x08] [] with flags := fl 0x81 }
      (fun t => (busRead 0x01FF t, t.sp, spent t)) =
      some ((0xA1 : Byte), (0xFE : Byte), (3 : Int)) := by
  decide

/-- 95 3.9. -/
theorem test_plp_all :
    after { placed 0x0400 [0x28] [(0x01FF, [0xFF])] with sp := 0xFE }
      (fun t => (pack t.flags, t.sp, spent t)) =
      some ((0xFF : Byte), (0xFF : Byte), (4 : Int)) := by
  decide

/-- 95 3.9. -/
theorem test_plp_b_only :
    after { placed 0x0400 [0x28] [(0x01FF, [0x10])] with sp := 0xFE }
      (fun t => (pack t.flags)) =
      some ((0x30 : Byte)) := by
  decide

/-- 95 3.10. -/
theorem test_unknown_02 :
    after { placed 0x0400 [0x02] [] with a := 3 }
      (fun t => ((t.pc, t.haltReason, t.events), (spent t, t.a, t.bus))) =
      some (((0x0401 : Addr), .illegal 0x02, [(0x02 : Byte)]), ((0 : Int), (0x03 : Byte),
        [.read 0x0400])) := by
  decide

/-- 95 3.8, R113: the other reading of the pointer at 02FF. -/
theorem test_jmp_ind_page_wrap_reading :
    jmpIndTarget true 0x02FF (placed 0x0400 [] [(0x02FF, [0x00, 0x80]), (0x0200, [0x40])]) = 0x4000 := by
  decide

/-- 70 R336: the operand bytes are read before the data write, so a store over its own operand runs to the old address. -/
theorem test_store_over_own_operand :
    after { placed 0x0400 [0x8D, 0x01, 0x04] [] with a := 0x77 } (fun t => (busRead 0x0401 t, t.pc)) =
      some ((0x77 : Byte), (0x0403 : Addr)) := by
  decide

/-! ### The control port: 95 3.11 and scenario S5 -/

/-- A call of `run` seen through its code and the balance, PC and SP after it. -/
def ran (n : Int) (s : State) : Option (Bool × Int × Addr × Byte) :=
  match run n s with
  | .next (code, t) => some (code == .brk, t.cyclesAvailable, t.pc, t.sp)
  | .fault _ => none
  | .refused _ => none

/-- A fresh CORE with bytes at 0000. -/
def fresh (bytes : List Byte) : State := { State.reset with mem := placeBytes 0 bytes [] }

theorem test_run_without_cycles :
    ran 0 (fresh []) = some (false, 0, 0x0000, 0xFF) ∧ ran (-5) (fresh []) = some (false, -5, 0x0000, 0xFF) := by
  decide

theorem test_run_budget_one : ran 1 (fresh [0x4C, 0x34, 0x12]) = some (false, -2, 0x1234, 0xFF) := by decide
theorem test_run_budget_three : ran 3 (fresh [0x4C, 0x34, 0x12]) = some (false, 0, 0x1234, 0xFF) := by decide
theorem test_run_budget_four : ran 4 (fresh [0x4C, 0x34, 0x12]) = some (true, -6, 0x1235, 0xFC) := by decide

theorem test_run_halted :
    ran 50 { fresh [0xEA] with runState := .halted, haltReason := .brk, cyclesAvailable := 3 } =
      some (true, 3, 0x0000, 0xFF) := by
  decide

theorem test_run_unknown_opcode : ran 9 (fresh [0xFF]) = some (true, 9, 0x0001, 0xFF) := by decide

/-- The setting of 95 section 2, property 1: operand bytes 10 02, flags that leave branches untaken. -/
def quiet (op : Byte) : State :=
  { placed 0x0400 [op, 0x10, 0x02] [] with
    flags := if [0x90, 0xD0, 0x10, 0x50].contains op then fl 0xFF else Flags.clear }

/-- 95 section 2, property 1: on a balance of its documented cycles an instruction leaves 0 (ADC to BVS). -/
theorem test_cycle_accounting_first_rows : ∀ row ∈ cycleRowsA, ∀ cell ∈ row.cells,
    after { quiet cell.op with cyclesAvailable := cell.cycles } (fun t => t.cyclesAvailable) = some 0 := by
  decide

/-- 95 section 2, property 1: on one cycle less it still executes and leaves -1 (RTS to TYA). -/
theorem test_cycle_accounting_last_rows : ∀ row ∈ cycleRowsD, ∀ cell ∈ row.cells,
    after { quiet cell.op with cyclesAvailable := cell.cycles - 1 } (fun t => t.cyclesAvailable) = some (-1) := by
  decide

/-! ### Placing a word of the table (decodeTableWord, withFetchWord) -/

theorem test_table_word_with_zero_operands :
    decodeTableWord 8 0xAD = some (.ldaAbs 0x0000) ∧ decodeTableWord 24 0x1234AD = some (.ldaAbs 0x1234) ∧
      decodeTableWord 8 0x02 = none := by
  decide

theorem test_placed_word_runs :
    after (State.reset.withFetchWord 16 0x7FA9) (fun t => (t.a, t.pc)) = some ((0x7F : Byte), (0x0002 : Addr)) := by
  decide

/-! ### Witnesses: a state and operands that meet the hypotheses of each statement that has some -/

theorem test_witness_DecodeOfEncode :
    wellFormed (.ldaAbs 0xFFFF) = true ∧ wellFormed .rti = true ∧ wellFormed (.bne 0x80) = true := by
  decide

theorem test_witness_EncodeOfDecode :
    decodeOp 0xAD 0x34 0x12 = some (.ldaAbs 0x1234) ∧ decodeOp 0xA9 0xFF 0x00 = some (.ldaImm 0xFF) ∧
      decodeOp 0xEA 0x00 0x00 = some .nop := by
  decide

theorem test_witness_CycleTableAsPrinted :
    (cycleTable.map (fun row => row.cells.length)).sum = 151 ∧ cycleTable.length = 56 ∧ 0x02 ∈ unknownOpcodes := by
  decide

/-- At an ordinary PC and at the last address, where the operand bytes wrap to 0000. -/
theorem test_witness_StepRunsDecodedInstruction :
    let s := placed 0x0400 [0xA9, 0xC0] []
    let u := placed 0xFFFF [0x4C, 0x34, 0x12] []
    (s.runState = .running ∧ 0 < s.cyclesAvailable ∧
      decodeOp (busRead s.pc s) (busRead (s.pc + 1) s) (busRead (s.pc + 2) s) = some (.ldaImm 0xC0)) ∧
      (u.runState = .running ∧ 0 < u.cyclesAvailable ∧
        decodeOp (busRead u.pc u) (busRead (u.pc + 1) u) (busRead (u.pc + 2) u) = some (.jmpAbs 0x1234)) := by
  decide

theorem test_witness_HaltedOrSpentCoreDoesNothing :
    State.reset.cyclesAvailable ≤ 0 ∧ (enterHalted .brk (placed 0x0400 [] [])).runState = .halted := by
  decide

theorem test_witness_UnknownOpcodeHalts :
    let s := placed 0x0400 [0x02] []
    let u := { placed 0xFFFF [0xFF] [] with cyclesAvailable := 1 }
    (s.runState = .running ∧ 0 < s.cyclesAvailable ∧ busRead s.pc s ∈ unknownOpcodes) ∧
      u.runState = .running ∧ 0 < u.cyclesAvailable ∧ busRead u.pc u ∈ unknownOpcodes := by
  decide

/-- BRK at the lowest balance that pays its 7, and one below. -/
theorem test_witness_CompletesExactlyWhenDebitFits :
    let s := { State.reset with cyclesAvailable := Config.cycleMin + 7 }
    let u := { State.reset with cyclesAvailable := Config.cycleMin + 6 }
    balanceOk (s.cyclesAvailable - debit .brk s) = true ∧ balanceOk (u.cyclesAvailable - debit .brk u) = false := by
  decide

/-- A branch untaken, taken and taken to another page; a penalised form that crosses; a store that crosses. -/
theorem test_witness_DebitLaw :
    debit (.bne 0x00) State.reset = 3 ∧ debit (.beq 0x00) State.reset = 2 ∧ debit (.bne 0x80) State.reset = 4 ∧
      debit (.ldaAbx 0x02FF) { State.reset with x := 1 } = 5 ∧
      debit (.staAbx 0x02FF) { State.reset with x := 1 } = 5 ∧ (Instr.bne 0x00).mode = .rel ∧
      pagePenalty (opcode (.ldaAbx 0x02FF)) = true := by
  decide

theorem test_witness_MemoryChangesOnlyWhereStored :
    let s := { State.reset with a := 1 }
    ∃ t, s.mem.wf = true ∧ exec (.staZp 0x10) s = .next t :=
  ⟨_, rfl, rfl⟩

/-- The three modes that can cross, crossing, and one that cannot. -/
theorem test_witness_PageCrossedFollowsTheInstruction :
    let s := { placed 0x0400 [] [(0x0010, [0xFF, 0x02])] with x := 1, y := 1 }
    (crossesPage (.ldaAbx 0x02FF) s = true ∧ crossesPage (.staAby 0x02FF) s = true ∧
      crossesPage (.ldaIzy 0x10) s = true ∧ crossesPage (.ldaZpx 0xFF) s = false) ∧
      (∃ t, exec (.ldaAbx 0x02FF) s = .next t) ∧ (∃ t, exec (.staAby 0x02FF) s = .next t) ∧
      (∃ t, exec (.ldaIzy 0x10) s = .next t) ∧ ∃ t, exec (.ldaZpx 0xFF) s = .next t :=
  ⟨by decide, ⟨_, rfl⟩, ⟨_, rfl⟩, ⟨_, rfl⟩, _, rfl⟩

theorem test_witness_OnlyBrkHalts :
    (∃ t, exec .brk State.reset = .next t) ∧ ∃ t, exec .nop State.reset = .next t ∧ Instr.nop ≠ .brk :=
  ⟨⟨_, rfl⟩, _, rfl, by decide⟩

theorem test_witness_RegistersChangeOnlyByTheirWriters :
    (∃ t, exec .clc State.reset = .next t) ∧ writesA .clc = false ∧ writesX .clc = false ∧ writesY .clc = false ∧
      writesSP .clc = false :=
  ⟨⟨_, rfl⟩, by decide⟩

theorem test_witness_FlagsChangeOnlyByTheirWriters :
    (∃ t, exec .txs State.reset = .next t) ∧ Instr.txs.mnemonic ∉ writersC ∧ Instr.txs.mnemonic ∉ writersNZ ∧
      Instr.txs.mnemonic ∉ writersI ∧ Instr.txs.mnemonic ∉ writersD ∧ Instr.txs.mnemonic ∉ writersB ∧
      Instr.txs.mnemonic ∉ writersV :=
  ⟨⟨_, rfl⟩, by decide⟩

theorem test_witness_DecimalInterruptBreakHaveNoEffect :
    Instr.adcImm 0x01 ≠ .php ∧ Instr.adcImm 0x01 ≠ .brk ∧ Instr.plp ≠ .php := by
  decide

theorem test_witness_BusAccessSequence :
    (∃ t, exec (.rolAbx 0x0200) State.reset = .next t) ∧ ∃ t, exec (.jmpInd 0xFFFF) State.reset = .next t :=
  ⟨⟨_, rfl⟩, _, rfl⟩

/-- A step that runs, one that halts on BRK, one that halts on an unknown opcode, and one that does nothing. -/
theorem test_witness_StepKeepsInvariant :
    (Inv (placed 0x0400 [0xEA] []) ∧ ∃ t, step (placed 0x0400 [0xEA] []) = .next t) ∧
      (Inv (placed 0x0400 [0x00] []) ∧ ∃ t, step (placed 0x0400 [0x00] []) = .next t) ∧
      (Inv (placed 0x0400 [0x02] []) ∧ ∃ t, step (placed 0x0400 [0x02] []) = .next t) ∧
      Inv State.reset ∧ ∃ t, step State.reset = .next t :=
  ⟨⟨⟨rfl, rfl, rfl, rfl, fun _ h => nomatch h⟩, _, rfl⟩, ⟨⟨rfl, rfl, rfl, rfl, fun _ h => nomatch h⟩, _, rfl⟩,
    ⟨⟨rfl, rfl, rfl, rfl, fun _ h => nomatch h⟩, _, rfl⟩, ⟨rfl, rfl, rfl, rfl, fun _ h => nomatch h⟩, _, rfl⟩

theorem test_witness_CreationEstablishesInvariant :
    Memory.wf [] = true ∧ Memory.wf [(0x0000, 0x01), (0xFFFF, 0xFF)] = true := by
  decide

/-- A deposit of nothing, of one cycle, and the largest one; on each the CORE is RUNNING. -/
theorem test_witness_RunReturns :
    State.reset.runState = .running ∧ balanceOk (State.reset.cyclesAvailable + 0) = true ∧
      balanceOk (State.reset.cyclesAvailable + 1) = true ∧
      balanceOk (State.reset.cyclesAvailable + 2147483647) = true := by
  decide

/-- Each clause: a HALTED CORE; a deposit one over the range; deposits of 0 and down to the range's end. -/
theorem test_witness_RunAtItsEdges :
    (enterHalted .brk State.reset).runState = .halted ∧ State.reset.runState = .running ∧
      balanceOk (State.reset.cyclesAvailable + 2147483648) = false ∧
      balanceOk (State.reset.cyclesAvailable + -2147483649) = false ∧
      (balanceOk (State.reset.cyclesAvailable + 0) = true ∧ State.reset.cyclesAvailable + 0 ≤ 0) ∧
      balanceOk (State.reset.cyclesAvailable + -2147483648) = true := by
  decide

theorem test_witness_RunSingleSteps : State.reset.runState = .running := by decide

/-- Canonical memory, with SP at both ends of the stack page. -/
theorem test_witness_PushAndPull :
    State.reset.mem.wf = true ∧ State.reset.sp = 0xFF ∧
      ((push 0x05 { State.reset with sp := 0x00 }).sp = 0xFF ∧ (pull State.reset).2.sp = 0x00) := by
  decide

/-- `HasRoom` at reset and at both ends of its range; reset memory is canonical. Every statement of a result below is met
with these, and its forms by the counts that follow. -/
theorem test_witness_room :
    HasRoom State.reset ∧ HasRoom { State.reset with cyclesAvailable := Config.cycleMin + 7 } ∧
      HasRoom { State.reset with cyclesAvailable := Config.cycleMax } ∧ State.reset.mem.wf = true := by
  refine ⟨⟨?_, ?_⟩, ⟨?_, ?_⟩, ⟨?_, ?_⟩, rfl⟩ <;> decide

theorem test_room : HasRoom State.reset := by constructor <;> decide

/-- One memory operand of each mode, at the top of its range. -/
def everyMem : List MemOperand :=
  [.zp 0xFF, .zpx 0xFF, .zpy 0xFF, .abs 0xFFFF, .abx 0xFFFF, .aby 0xFFFF, .izx 0xFF, .izy 0xFF]

/-- One operand of each mode. -/
def everyOperand : List Operand := .imm 0xFF :: everyMem.map Operand.mem

/-- How many modes a reading instruction has. -/
def readForms (form : Operand → Option FormRow) : Nat := (everyOperand.filter fun o => (form o).isSome).length

/-- How many modes a storing or modifying instruction has. -/
def memForms (form : MemOperand → Option FormRow) : Nat := (everyMem.filter fun m => (form m).isSome).length

theorem test_witness_LoadsCopyTheOperand :
    HasRoom State.reset ∧ readForms ldaForm = 8 ∧ readForms ldxForm = 5 ∧ readForms ldyForm = 5 :=
  ⟨test_room, by decide⟩

theorem test_witness_StoresWriteTheirRegister :
    HasRoom State.reset ∧ State.reset.mem.wf = true ∧ memForms staForm = 7 ∧ memForms stxForm = 3 ∧ memForms styForm = 3 :=
  ⟨test_room, rfl, by decide⟩

theorem test_witness_AdcAddsWithCarry :
    HasRoom State.reset ∧ readForms adcForm = 8 :=
  ⟨test_room, by decide⟩
theorem test_witness_SbcSubtractsWithBorrow :
    HasRoom State.reset ∧ readForms sbcForm = 8 :=
  ⟨test_room, by decide⟩
theorem test_witness_LogicCombinesBits :
    HasRoom State.reset ∧ readForms andForm = 8 ∧ readForms oraForm = 8 ∧ readForms eorForm = 8 :=
  ⟨test_room, by decide⟩
theorem test_witness_CompareSetsFlagsOnly :
    HasRoom State.reset ∧ readForms cmpForm = 8 ∧ readForms cpxForm = 3 ∧ readForms cpyForm = 3 :=
  ⟨test_room, by decide⟩

theorem test_witness_BitTestsOperand :
    HasRoom State.reset ∧ readForms bitForm = 2 :=
  ⟨test_room, by decide⟩
theorem test_witness_IncDecMemory :
    HasRoom State.reset ∧ State.reset.mem.wf = true ∧ memForms incForm = 4 ∧ memForms decForm = 4 :=
  ⟨test_room, rfl, by decide⟩
theorem test_witness_ShiftsMoveOneBit :
    HasRoom State.reset ∧ State.reset.mem.wf = true ∧ memForms aslForm = 4 ∧ memForms lsrForm = 4 :=
  ⟨test_room, rfl, by decide⟩
theorem test_witness_RotatesGoThroughCarry :
    HasRoom State.reset ∧ State.reset.mem.wf = true ∧ memForms rolForm = 4 ∧ memForms rorForm = 4 :=
  ⟨test_room, rfl, by decide⟩

/-- All eight branches, each taken and untaken at some flags. -/
theorem test_witness_BranchesGoWhereTheySay :
    HasRoom State.reset ∧ branchRows.length = 8 ∧ (∀ row ∈ branchRows, row.cond Flags.clear = !row.cond (fl 0xFF)) :=
  ⟨test_room, by decide⟩

theorem test_witness_JmpGoesToTarget : HasRoom State.reset := test_room
theorem test_witness_JsrPushesReturnAddress : HasRoom State.reset ∧ State.reset.mem.wf = true :=
  ⟨test_room, rfl⟩

theorem test_witness_RtsReturnsPastPulledAddress : HasRoom State.reset := test_room
theorem test_witness_RtiRestoresFlagsAndPc : HasRoom State.reset := test_room
theorem test_witness_BrkSavesStateAndHalts : HasRoom State.reset ∧ State.reset.mem.wf = true :=
  ⟨test_room, rfl⟩

/-- Each clause of the two: a state with room, and a state after the push, with room. -/
theorem test_witness_PhaPushesAndPlaPulls :
    HasRoom State.reset ∧ ∃ t, State.reset.mem.wf = true ∧ exec .pha State.reset = .next t ∧ HasRoom t :=
  ⟨test_room, _, rfl, rfl, by constructor <;> decide⟩

theorem test_witness_PhpPushesAndPlpPulls :
    HasRoom State.reset ∧ ∃ t, State.reset.mem.wf = true ∧ exec .php State.reset = .next t ∧ HasRoom t :=
  ⟨test_room, _, rfl, rfl, by constructor <;> decide⟩

theorem test_witness_IncDecIndexRegisters : HasRoom State.reset := test_room
theorem test_witness_TransfersCopyAndSetNZ : HasRoom State.reset := test_room
theorem test_witness_TxsAndNopWriteNoFlag : HasRoom State.reset := test_room
theorem test_witness_FlagInstructionsWriteOneFlag : HasRoom State.reset := test_room

/-- A subroutine that has run: other A, X, flags, PC, memory and balance than JSR left, SP and the two stack bytes the same;
once with SP at the top of the stack page, once where the two bytes lie at both ends of it. -/
theorem test_witness_JsrRtsReturns :
    (∃ t r, State.reset.mem.wf = true ∧ exec (.jsr 0x1234) State.reset = .next t ∧ r.sp = t.sp ∧
      busRead (stackAddr (r.sp + 1)) r = busRead (stackAddr (r.sp + 1)) t ∧
      busRead (stackAddr (r.sp + 2)) r = busRead (stackAddr (r.sp + 2)) t ∧ HasRoom r ∧ r.x ≠ t.x) ∧
      ∃ t r, State.reset.mem.wf = true ∧
        exec (.jsr 0x1234) { State.reset with sp := 0x00, pc := 0xFFFE } = .next t ∧ r.sp = t.sp ∧
        busRead (stackAddr (r.sp + 1)) r = busRead (stackAddr (r.sp + 1)) t ∧
        busRead (stackAddr (r.sp + 2)) r = busRead (stackAddr (r.sp + 2)) t ∧ HasRoom r ∧ r.x ≠ t.x :=
  ⟨⟨_, { State.reset with
      sp := 0xFD, x := 1, a := 5, flags := fl 0xFF, pc := 0x1240, cyclesAvailable := 9,
      mem := placeBytes 0x01FE [0x02, 0x00] (placeBytes 0x0200 [0x07] []) },
    rfl, rfl, rfl, by decide, by decide, by constructor <;> decide, by decide⟩,
   ⟨_, { State.reset with sp := 0xFE, x := 1, pc := 0x1240 },
    rfl, rfl, rfl, by decide, by decide, by constructor <;> decide, by decide⟩⟩

/-- A deposit of one cycle on a spent balance, one that meets a negative residue, and the largest one. -/
theorem test_witness_RunIsOneStepThenTheRest :
    State.reset.runState = .running ∧
      (balanceOk (State.reset.cyclesAvailable + 1) = true ∧ 0 < State.reset.cyclesAvailable + 1) ∧
      (balanceOk ((-2 : Int) + 3) = true ∧ 0 < (-2 : Int) + 3) ∧
      (balanceOk (State.reset.cyclesAvailable + 2147483647) = true ∧ 0 < State.reset.cyclesAvailable + 2147483647) := by
  decide

/-- The hypothesis of the last clause is met by both instructions that have the mode. -/
theorem test_witness_ZeroPageAddressesWrap :
    (Instr.ldxZpy 0xFF).mode = .zpy ∧ (Instr.stxZpy 0x00).mode = .zpy := by
  decide

end Sys2Proof.Tests
end

section
/-! The packed flag byte (R27) as arithmetic: a flag at bit `k` is worth `2 ^ k`, and the bits are disjoint, so each OR
of `pack` is a sum. -/

namespace Sys2Proof.Proofs.State

open Sys2Proof.Machine

/-- A flag placed inside the byte is worth `2 ^ k` when set and 0 when clear. -/
theorem flagBit_toNat (flag : Bool) {k : Nat} (hk : k < 8) : (flagBit flag k).toNat = 2 ^ k * flag.toNat := by
  cases flag with
  | false => simp [flagBit]
  | true =>
    have hfits : 2 ^ k < 256 := Nat.pow_lt_pow_right (by decide : 1 < 2) hk
    simp [flagBit, Nat.shiftLeft_eq, hfits]

/-- Above a byte that stays below bit `k`, the OR with a flag at bit `k` is their sum. -/
theorem flagBit_or_toNat (flag : Bool) {k : Nat} (hk : k < 8) {low : Byte} (hlow : low.toNat < 2 ^ k) :
    (flagBit flag k ||| low).toNat = 2 ^ k * flag.toNat + low.toNat := by
  rw [BitVec.toNat_or, flagBit_toNat flag hk, Nat.two_pow_add_eq_or_of_lt hlow]

/-- A flag at bit `k` above a byte that stays below bit `k` stays below bit `k + 1`. -/
theorem flagBit_or_lt (flag : Bool) {k : Nat} (hk : k < 8) {low : Byte} (hlow : low.toNat < 2 ^ k) :
    (flagBit flag k ||| low).toNat < 2 ^ (k + 1) := by
  have hflag : 2 ^ k * flag.toNat ≤ 2 ^ k * 1 := Nat.mul_le_mul_left _ flag.toNat_le
  rw [flagBit_or_toNat flag hk hlow]
  omega

/-- Settles O29: read from bit 0 up, each flag of `pack` (R27) lies above the byte packed so far, so its OR adds its
weight. -/
theorem packedFlagByte : Obligations.PackedFlagByte := by
  intro f
  have hc : (flagBit f.c 0).toNat < 2 ^ 1 := by
    rw [flagBit_toNat f.c (by decide)]
    have hcarry := f.c.toNat_le
    omega
  have hz := flagBit_or_lt f.z (by decide) hc
  have hi := flagBit_or_lt f.i (by decide) hz
  have hd := flagBit_or_lt f.d (by decide) hi
  have hb := flagBit_or_lt f.b (by decide) hd
  have h5 := flagBit_or_lt true (by decide) hb
  have hv := flagBit_or_lt f.v (by decide) h5
  simp only [pack, BitVec.or_assoc]
  rw [flagBit_or_toNat f.n (by decide) hv, flagBit_or_toNat f.v (by decide) h5,
    flagBit_or_toNat true (by decide) hb, flagBit_or_toNat f.b (by decide) hd,
    flagBit_or_toNat f.d (by decide) hi, flagBit_or_toNat f.i (by decide) hz,
    flagBit_or_toNat f.z (by decide) hc, flagBit_toNat f.c (by decide)]
  simp only [Bool.toNat_true]
  omega

end Sys2Proof.Proofs.State
end

section
/-! The address generator (R104 to R111) as arithmetic on addresses: a zero-page address is its byte, an index is added
mod 2^16, the page-cross test compares quotients by 256, and a zero-page pointer is two bytes of page 0. -/

namespace Sys2Proof.Proofs.Addressing

open Sys2Proof.Machine Sys2Proof.Spec

theorem zeroPage_toNat (z : Byte) : (zeroPage z).toNat = z.toNat :=
  BitVec.toNat_setWidth_of_le (by decide)

/-- An index stays inside page 0: the bytes are added mod 256 before the address is made (R105, R106). -/
theorem zeroPage_add_toNat (z index : Byte) : (zeroPage (z + index)).toNat = (z.toNat + index.toNat) % 256 :=
  (zeroPage_toNat (z + index)).trans (BitVec.toNat_add z index)

theorem zeroPage_eq_ofNat (z : Byte) : zeroPage z = BitVec.ofNat 16 z.toNat :=
  BitVec.eq_of_toNat_eq (by rw [zeroPage_toNat, BitVec.toNat_ofNat, Nat.mod_eq_of_lt (by omega)])

/-- An index byte moves an address mod 2^16 (R108, R109, R111). -/
theorem add_index_toNat (base : Addr) (index : Byte) :
    (base + index.setWidth 16).toNat = (base.toNat + index.toNat) % 65536 := by
  rw [BitVec.toNat_add, BitVec.toNat_setWidth_of_le (by decide)]

theorem crossed_iff (a b : Addr) : crossed a b = true ↔ a.toNat / 256 ≠ b.toNat / 256 := by
  rw [crossed, bne_iff_ne, ← BitVec.toNat_ne_iff_ne, hi8_toNat, hi8_toNat]

/-- Adding an index crosses a page exactly when the quotient by 256 changes, the wrap to page 0 included (R108). -/
theorem crossed_add_index_iff (base : Addr) (index : Byte) :
    crossed base (base + index.setWidth 16) = true ↔
      base.toNat / 256 ≠ (base.toNat + index.toNat) % 65536 / 256 := by
  rw [crossed_iff, add_index_toNat]

/-- The pointer of the indirect modes (R55) as the word of page 0 that the statements speak of. -/
theorem zpWord_toNat (z : Byte) (s : State) : (zpWord z s).toNat = zeroPageWord z.toNat s := by
  have hhigh : zeroPage (z + 1) = BitVec.ofNat 16 ((z.toNat + 1) % 256) := zeroPage_eq_ofNat (z + 1)
  rw [zpWord, word16_toNat, zeroPage_eq_ofNat z, hhigh, zeroPageWord, Nat.add_comm]

/-- LDX and STX alone are indexed by Y in page 0 (R106). -/
theorem mnemonic_of_mode_zpy {i : Instr} (h : i.mode = .zpy) : i.mnemonic = .ldx ∨ i.mnemonic = .stx := by
  cases i with
  | ldxZpy z => exact .inl rfl
  | stxZpy z => exact .inr rfl
  | _ => cases h

/-- Settles O25: a zero-page address is its byte, and an indexed one a byte sum, so no index leaves page 0. -/
theorem zeroPageAddressesWrap : Obligations.ZeroPageAddressesWrap :=
  ⟨fun z s =>
    ⟨⟨zeroPage_toNat z, rfl, rfl⟩, ⟨zeroPage_add_toNat z s.x, rfl, rfl⟩, ⟨zeroPage_add_toNat z s.y, rfl, rfl⟩⟩,
    fun _ => mnemonic_of_mode_zpy⟩

/-- Settles O26: both forms are the sum of a base and an index byte, with the page-cross test between base and sum. -/
theorem absoluteIndexedAddresses : Obligations.AbsoluteIndexedAddresses := fun w s =>
  ⟨⟨add_index_toNat w s.x, crossed_add_index_iff w s.x, rfl⟩,
    add_index_toNat w s.y, crossed_add_index_iff w s.y, rfl⟩

/-- Settles O27: IZX takes its pointer at a byte sum, which wraps in page 0; IZY is the indexed form with the pointer's
word as its base. -/
theorem indirectAddresses : Obligations.IndirectAddresses := by
  intro z s
  refine ⟨⟨?izx, rfl, rfl⟩, ?izy, ?izyCross, rfl⟩
  case izx =>
    have hindex : (z + s.x).toNat = (z.toNat + s.x.toNat) % 256 := BitVec.toNat_add z s.x
    exact hindex ▸ zpWord_toNat (z + s.x) s
  case izy =>
    exact zpWord_toNat z s ▸ add_index_toNat (zpWord z s) s.y
  case izyCross =>
    exact zpWord_toNat z s ▸ crossed_add_index_iff (zpWord z s) s.y

end Sys2Proof.Proofs.Addressing
end

section
/-! One push and one pull (R119): where the stack pointer goes, and what of memory they see and leave. -/

namespace Sys2Proof.Proofs.Stack

open Sys2Proof.Machine

/-- The stack stays in page 1 (R25). -/
theorem stackAddr_toNat (sp : Byte) : (stackAddr sp).toNat = 256 + sp.toNat := by
  have hsp := sp.isLt
  have hpage : (0x0100 : Addr).toNat = 256 := rfl
  rw [stackAddr, BitVec.toNat_add, BitVec.toNat_setWidth_of_le (by decide), hpage]
  omega

theorem busRead_push_same {s : State} (hmem : s.mem.wf = true) (v : Byte) :
    busRead (stackAddr s.sp) (push v s) = v :=
  Memory.read_write_same hmem (stackAddr s.sp) v

theorem push_sameMemExcept {s : State} (hmem : s.mem.wf = true) (v : Byte) :
    SameMemExcept [stackAddr s.sp] s (push v s) :=
  fun _ hother => Memory.read_write_other hmem v (List.ne_of_not_mem_cons hother)

theorem push_sp_toNat (v : Byte) (s : State) : (push v s).sp.toNat = (s.sp.toNat + 255) % 256 := by
  rw [push_sp, BitVec.toNat_sub, Nat.add_comm]
  rfl

theorem pull_sp_toNat (s : State) : (pull s).2.sp.toNat = (s.sp.toNat + 1) % 256 :=
  BitVec.toNat_add s.sp 1

/-- Settles O28: a push is one write at the old SP, a pull one read at the new SP; the laws of `push` and `pull` leave
the other registers untouched. -/
theorem pushAndPull : Obligations.PushAndPull := fun v s hmem =>
  ⟨⟨stackAddr_toNat s.sp, busRead_push_same hmem v, push_sameMemExcept hmem v, push_sp_toNat v s,
      ⟨push_a v s, push_x v s, push_y v s⟩, push_pc v s, push_flags v s⟩,
    pull_sp_toNat s, pull_fst s, fun _ => rfl,
    ⟨pull_snd_a s, pull_snd_x s, pull_snd_y s⟩, pull_snd_pc s, pull_snd_flags s⟩

end Sys2Proof.Proofs.Stack
end

section
/-! The frame of every reading instruction (R18, R118, R138), proved once for any effect on A, X, Y and the flags and
for any table of operand forms. -/

namespace Sys2Proof.Proofs.ReadShape

open Sys2Proof.Machine Sys2Proof.Spec

/-- An effect of a *read* instruction that writes A, X, Y and the flags alone. -/
def WritesAXYFlags (act : Byte → State → State) : Prop :=
  ∀ m u, act m u =
    { u with a := (act m u).a, x := (act m u).x, y := (act m u).y, flags := (act m u).flags }

/-- A row of a form table that belongs to the reading instruction with effect `act` on the operand `o`: its opcode, its
"+" mark (R145) and its meaning. -/
structure IsReadRow (act : Byte → State → State) (o : Operand) (row : FormRow) : Prop where
  opcode_eq : opcode row.instr = row.op
  plus_eq : row.plus = pagePenalty row.op
  exec_eq : ∀ s, exec row.instr s = readInstr row.op act o s

/-- A form table whose every row is the reading instruction with effect `act`. -/
def IsReadTable (act : Byte → State → State) (form : Operand → Option FormRow) : Prop :=
  ∀ o row, form o = some row → IsReadRow act o row

theorem operandCross_eq_operandCrosses (o : Operand) (s : State) : operandCross o s = operandCrosses o s := by
  cases o <;> rfl

/-- Without a branch's extra, the charge (R138) is the base and the cycle of a penalised crossing. -/
theorem chargeOf_eq_base_add_crossCycle (op : Byte) (cross : Bool) :
    chargeOf op cross 0 = baseCycles op + crossCycle (pagePenalty op) cross :=
  rfl

/-- A reading instruction completes with its frame in every form of its table, once each row is its own and its action
on a state with the old A, X, Y and flags has the effect stated. -/
theorem readResult_of_table {form : Operand → Option FormRow} {act : Byte → State → State}
    {effect : Byte → State → State → Prop} (htable : IsReadTable act form) (hact : WritesAXYFlags act)
    (heffect : ∀ m s u n, SameAXY s u → u.flags = s.flags → effect m s (setCycles n (act m u))) :
    ReadResult form effect := by
  intro o row s hform hroom
  obtain ⟨hop, hplus, hexec⟩ := htable o row hform
  let u := operandRead o (fetch (operandLength o) s)
  have hu := hact (operandValue o s) u
  have hcharge : chargeOf row.op (operandCross o s) 0 =
      baseCycles row.op + crossCycle row.plus (operandCrosses o s) := by
    rw [chargeOf_eq_base_add_crossCycle, hplus, operandCross_eq_operandCrosses]
  refine ⟨_, (hexec s).trans (readInstr_of_room hroom ?balance ?crossed), hop,
    ?effect, ?sp, ?pc, ?mem, ?control, ?debit⟩
  case balance => exact fun m u => by rw [hact m u]
  case crossed => exact fun m u => by rw [hact m u]
  case effect =>
    exact heffect _ s u _ ⟨operandRead_a .., operandRead_x .., operandRead_y ..⟩ (operandRead_flags ..)
  case sp => exact (congrArg State.sp hu).trans (operandRead_sp ..)
  case pc => exact (congrArg State.pc hu).trans (operandRead_pc ..)
  case mem =>
    have hmem : (act (operandValue o s) u).mem = s.mem := (congrArg State.mem hu).trans (operandRead_mem ..)
    exact fun a => congrArg (Memory.read · a) hmem
  case control =>
    exact ⟨(congrArg State.runState hu).trans (operandRead_runState ..),
      (congrArg State.haltReason hu).trans (operandRead_haltReason ..),
      (congrArg State.events hu).trans (operandRead_events ..)⟩
  case debit => exact congrArg (fun n : Nat => s.cyclesAvailable - n) hcharge

end Sys2Proof.Proofs.ReadShape
end

section
/-! Compare (R117) as arithmetic on bytes, and the forms of CMP, CPX and CPY (R186, R187, R188). -/

namespace Sys2Proof.Proofs.Compare

open Sys2Proof.Machine Sys2Proof.Spec Sys2Proof.Proofs.ReadShape

/-- Bit 7 of a byte says that it is 128 or more. -/
theorem getLsbD_seven_eq (v : Byte) : v.getLsbD 7 = decide (128 ≤ v.toNat) :=
  v.msb_eq_decide

/-- The byte of an integer difference is the difference mod 256. -/
theorem ofInt_sub_toNat (r m : Byte) :
    (BitVec.ofInt 8 ((r.toNat : Int) - m.toNat)).toNat = (r.toNat + 256 - m.toNat) % 256 := by
  have hm := m.isLt
  rw [BitVec.toNat_ofInt]
  omega

/-- Compare's integer difference (R117) read as C, Z and N of two bytes. -/
theorem compareFlags_eq (r m : Byte) (f : Flags) :
    compareFlags r m f = { f with
      c := decide (m.toNat ≤ r.toNat)
      z := r == m
      n := decide (128 ≤ (r.toNat + 256 - m.toNat) % 256) } := by
  have hc : decide (0 ≤ (r.toNat : Int) - m.toNat) = decide (m.toNat ≤ r.toNat) :=
    decide_eq_decide.mpr (by omega)
  have hz : decide ((r.toNat : Int) - m.toNat = 0) = (r == m) := by
    rw [Bool.beq_eq_decide_eq, decide_eq_decide, ← BitVec.toNat_inj]
    omega
  rw [compareFlags, hc, hz, getLsbD_seven_eq, ofInt_sub_toNat]

theorem cmpForm_isReadTable : IsReadTable cmpA cmpForm := by
  rintro (v | (z | z | z | w | w | w | z | z)) row ⟨⟩ <;> exact ⟨rfl, rfl, fun _ => rfl⟩

theorem cpxForm_isReadTable : IsReadTable cmpX cpxForm := by
  rintro (v | (z | z | z | w | w | w | z | z)) row ⟨⟩ <;> exact ⟨rfl, rfl, fun _ => rfl⟩

theorem cpyForm_isReadTable : IsReadTable cmpY cpyForm := by
  rintro (v | (z | z | z | w | w | w | z | z)) row ⟨⟩ <;> exact ⟨rfl, rfl, fun _ => rfl⟩

/-- Comparing the register `r` writes the flags alone, as `CompareEffect` says, wherever `r` is as before. -/
theorem readResult_compare {form : Operand → Option FormRow} {r : State → Byte}
    (htable : IsReadTable (fun m u => setFlags (compareFlags (r u) m u.flags) u) form)
    (hreg : ∀ {s u}, SameAXY s u → r u = r s) : ReadResult form (CompareEffect r) := by
  refine readResult_of_table htable (fun _ _ => rfl) fun m s u n hsame hflags => ⟨hsame, ?_⟩
  rw [← compareFlags_eq, ← hreg hsame, ← hflags]
  rfl

/-- Settles O37: CMP, CPX and CPY are the one comparison, on A, X and Y. -/
theorem compareSetsFlagsOnly : Obligations.CompareSetsFlagsOnly :=
  ⟨readResult_compare cmpForm_isReadTable fun ⟨ha, _, _⟩ => ha,
    readResult_compare cpxForm_isReadTable fun ⟨_, hx, _⟩ => hx,
    readResult_compare cpyForm_isReadTable fun ⟨_, _, hy⟩ => hy⟩

end Sys2Proof.Proofs.Compare
end

section
/-! LDA, LDX and LDY (R160, R161, R162): one load, with the set_NZ law of R116, whose destination is A, X or Y. -/

namespace Sys2Proof.Proofs.Load

open Sys2Proof.Machine Sys2Proof.Spec Sys2Proof.Proofs.ReadShape

/-- Masking a byte with 0x80 keeps bit 7 alone. -/
theorem and_mask_ne_zero_eq_getLsbD_seven (v : Byte) : ((v &&& 0x80#8) != 0#8) = v.getLsbD 7 := by
  have hmask : v &&& 0x80#8 = if v.getLsbD 7 then 0x80#8 else 0#8 := BitVec.and_twoPow v 7
  rw [hmask]
  cases v.getLsbD 7 with
  | false => rfl
  | true => rfl

/-- The model's set_NZ meets the law the statements speak of (R116). -/
theorem setNZ_eq_nz (v : Byte) (f : Flags) : setNZ v f = nz v f := by
  rw [setNZ, nz, and_mask_ne_zero_eq_getLsbD_seven]
  rfl

/-- The flags of a load that starts from the flags of `s`. -/
theorem setNZ_of_flags_eq (m : Byte) {s u : State} (hflags : u.flags = s.flags) : setNZ m u.flags = nz m s.flags :=
  hflags ▸ setNZ_eq_nz m u.flags

theorem ldaForm_isReadTable : IsReadTable loadA ldaForm := by
  rintro (v | (z | z | z | w | w | w | z | z)) row ⟨⟩ <;> exact ⟨rfl, rfl, fun _ => rfl⟩

theorem ldxForm_isReadTable : IsReadTable loadX ldxForm := by
  rintro (v | (z | z | z | w | w | w | z | z)) row ⟨⟩ <;> exact ⟨rfl, rfl, fun _ => rfl⟩

theorem ldyForm_isReadTable : IsReadTable loadY ldyForm := by
  rintro (v | (z | z | z | w | w | w | z | z)) row ⟨⟩ <;> exact ⟨rfl, rfl, fun _ => rfl⟩

/-- Settles O32: each of the three writes its register and set_NZ of the operand over a frame that is the same for every
form of its table. -/
theorem loadsCopyTheOperand : Obligations.LoadsCopyTheOperand :=
  ⟨readResult_of_table ldaForm_isReadTable (fun _ _ => rfl)
      fun m _ _ _ ⟨_, hx, hy⟩ hflags => ⟨rfl, hx, hy, setNZ_of_flags_eq m hflags⟩,
    readResult_of_table ldxForm_isReadTable (fun _ _ => rfl)
      fun m _ _ _ ⟨ha, _, hy⟩ hflags => ⟨rfl, ha, hy, setNZ_of_flags_eq m hflags⟩,
    readResult_of_table ldyForm_isReadTable (fun _ _ => rfl)
      fun m _ _ _ ⟨ha, hx, _⟩ hflags => ⟨rfl, ha, hx, setNZ_of_flags_eq m hflags⟩⟩

end Sys2Proof.Proofs.Load
end

section
/-! ADC (R181): ADC8 (R180) as the statements write it, over the frame that every reading instruction has. -/

namespace Sys2Proof.Proofs.Add

open Sys2Proof.Machine Sys2Proof.Spec Sys2Proof.Proofs.ReadShape Sys2Proof.Proofs.Load

/-- The exact sum of ADC8 with the carry as the number it counts for. -/
theorem adcSum_eq (a m : Byte) (c : Bool) : adcSum a m c = a.toNat + m.toNat + if c then 1 else 0 := by
  cases c <;> rfl

theorem adcForm_isReadTable : IsReadTable adcA adcForm := by
  rintro (v | (z | z | z | w | w | w | z | z)) row ⟨⟩ <;> exact ⟨rfl, rfl, fun _ => rfl⟩

/-- ADC on a state with the A, X, Y and flags of `s`, whatever its balance. -/
theorem adcEffect_adcA (m : Byte) {s u : State} (n : Int) (hsame : SameAXY s u) (hflags : u.flags = s.flags) :
    AdcEffect m s (setCycles n (adcA m u)) := by
  obtain ⟨ha, hx, hy⟩ := hsame
  rw [AdcEffect, ← ha, ← hflags, ← adcSum_eq]
  exact ⟨adcResult_toNat u.a m u.flags.c, hx, hy, setNZ_eq_nz _ _⟩

/-- Settles O34: each form of ADC is ADC8 of A and its operand, and no flag but C enters the sum, so D has no effect. -/
theorem adcAddsWithCarry : Obligations.AdcAddsWithCarry :=
  readResult_of_table adcForm_isReadTable (fun _ _ => rfl) fun m _ _ n => adcEffect_adcA m n

end Sys2Proof.Proofs.Add
end

section
/-! AND, ORA and EOR (R183, R184, R185): one reading instruction, whose operation on bytes is one on bits. -/

namespace Sys2Proof.Proofs.Logic

open Sys2Proof.Machine Sys2Proof.Spec Sys2Proof.Proofs.ReadShape Sys2Proof.Proofs.Load

theorem andForm_isReadTable : IsReadTable andA andForm := by
  rintro (v | (z | z | z | w | w | w | z | z)) row ⟨⟩ <;> exact ⟨rfl, rfl, fun _ => rfl⟩

theorem oraForm_isReadTable : IsReadTable oraA oraForm := by
  rintro (v | (z | z | z | w | w | w | z | z)) row ⟨⟩ <;> exact ⟨rfl, rfl, fun _ => rfl⟩

theorem eorForm_isReadTable : IsReadTable eorA eorForm := by
  rintro (v | (z | z | z | w | w | w | z | z)) row ⟨⟩ <;> exact ⟨rfl, rfl, fun _ => rfl⟩

/-- Combining A and the operand by `byteOp` puts `bitOp` of their bits into every bit of A, and set_NZ of A into the
flags, wherever `byteOp` works bit by bit. -/
theorem readResult_logic {form : Operand → Option FormRow} {byteOp : Byte → Byte → Byte} {bitOp : Bool → Bool → Bool}
    (htable : IsReadTable (fun m u => flagNZ (byteOp u.a m) (setA (byteOp u.a m) u)) form)
    (hbit : ∀ a m k, (byteOp a m).getLsbD k = bitOp (a.getLsbD k) (m.getLsbD k)) :
    ReadResult form fun m s t => (∀ k, t.a.getLsbD k = bitOp (s.a.getLsbD k) (m.getLsbD k)) ∧ t.x = s.x ∧ t.y = s.y ∧
      t.flags = nz t.a s.flags := by
  refine readResult_of_table htable (fun _ _ => rfl) fun m s u n hsame hflags => ?_
  obtain ⟨ha, hx, hy⟩ := hsame
  exact ⟨fun k => ha ▸ hbit u.a m k, hx, hy, setNZ_of_flags_eq (byteOp u.a m) hflags⟩

/-- Settles O36: AND, ORA and EOR of bytes are AND, OR and XOR of each bit. -/
theorem logicCombinesBits : Obligations.LogicCombinesBits :=
  ⟨readResult_logic andForm_isReadTable fun _ _ _ => BitVec.getLsbD_and,
    readResult_logic oraForm_isReadTable fun _ _ _ => BitVec.getLsbD_or,
    readResult_logic eorForm_isReadTable fun _ _ _ => BitVec.getLsbD_xor⟩

end Sys2Proof.Proofs.Logic
end

section
/-! BIT (R189): the two flags it takes from the operand, as bounds on the operand's value. -/

namespace Sys2Proof.Proofs.BitTest

open Sys2Proof.Machine Sys2Proof.Spec Sys2Proof.Proofs.ReadShape Sys2Proof.Proofs.Compare

/-- Bit 6 of a byte says that what lies below bit 7 is 64 or more. -/
theorem getLsbD_six_eq (v : Byte) : v.getLsbD 6 = decide (64 ≤ v.toNat % 128) := by
  rw [← BitVec.testBit_toNat, Nat.testBit_eq_decide_div_mod_eq, decide_eq_decide]
  omega

/-- The flags of BIT: N and V speak of the operand alone, Z of A AND operand. -/
theorem bitFlags_eq (a m : Byte) (f : Flags) :
    bitFlags a m f = { f with
      n := decide (128 ≤ m.toNat), v := decide (64 ≤ m.toNat % 128), z := (a &&& m) == 0#8 } := by
  rw [bitFlags, getLsbD_seven_eq, getLsbD_six_eq]
  rfl

theorem bitForm_isReadTable : IsReadTable bitA bitForm := by
  rintro (v | (z | z | z | w | w | w | z | z)) row ⟨⟩ <;> exact ⟨rfl, rfl, fun _ => rfl⟩

/-- Settles O38: BIT writes the flags alone, and its operand's bits 7 and 6 are bounds on the operand's value. -/
theorem bitTestsOperand : Obligations.BitTestsOperand := by
  refine readResult_of_table bitForm_isReadTable (fun _ _ => rfl) fun m s u n hsame hflags => ⟨hsame, ?_⟩
  obtain ⟨ha, _, _⟩ := hsame
  rw [← bitFlags_eq, ← ha, ← hflags]
  rfl

end Sys2Proof.Proofs.BitTest
end

section
/-! The frame of every instruction of one byte without a memory operand (R101, R138), proved once for any effect on A,
X, Y, SP and the flags. -/

namespace Sys2Proof.Proofs.ImpliedShape

open Sys2Proof.Machine Sys2Proof.Spec

/-- An effect of an implied instruction that writes A, X, Y, SP and the flags alone. -/
def WritesRegistersFlags (act : State → State) : Prop :=
  ∀ u, act u =
    { u with a := (act u).a, x := (act u).x, y := (act u).y, sp := (act u).sp, flags := (act u).flags }

/-- Without a crossing and a branch's extra, the charge (R138) is the base. -/
theorem chargeOf_eq_baseCycles (op : Byte) : chargeOf op false 0 = baseCycles op := by
  simp [chargeOf]

/-- An implied instruction completes with its frame, once its action after the fetch has the effect stated. -/
theorem impliedResult_of_exec {i : Instr} {op : Byte} {cycles : Nat} {act : State → State}
    {effect : State → State → Prop} (hop : opcode i = op) (hexec : ∀ s, exec i s = implied op act s)
    (hcycles : baseCycles op = cycles) (hact : WritesRegistersFlags act)
    (heffect : ∀ s n, effect s (setCycles n (act (fetch 1 s)))) : ImpliedResult i op cycles effect := by
  intro s hroom
  have hu := hact (fetch 1 s)
  have hcharge : chargeOf op (act (fetch 1 s)).pageCrossed 0 = cycles := by
    rw [hu, fetch_pageCrossed, chargeOf_eq_baseCycles, hcycles]
  have hbalance := (congrArg State.cyclesAvailable hu).trans (fetch_cyclesAvailable 1 s)
  refine ⟨_, (hexec s).trans (implied_of_room hroom hbalance), hop, heffect s _, ?pc, ?mem, ?control, ?debit⟩
  case pc => exact (congrArg State.pc hu).trans (fetch_pc 1 s)
  case mem =>
    have hmem : (act (fetch 1 s)).mem = s.mem := (congrArg State.mem hu).trans (fetch_mem 1 s)
    exact fun a => congrArg (Memory.read · a) hmem
  case control =>
    exact ⟨(congrArg State.runState hu).trans (fetch_runState 1 s),
      (congrArg State.haltReason hu).trans (fetch_haltReason 1 s),
      (congrArg State.events hu).trans (fetch_events 1 s)⟩
  case debit => exact congrArg (fun n : Nat => s.cyclesAvailable - n) hcharge

end Sys2Proof.Proofs.ImpliedShape
end

section
/-! Plus and minus one on a byte with set_NZ (R190 to R195), and the forms on X and Y: INX, INY, DEX and DEY. -/

namespace Sys2Proof.Proofs.IncDec

open Sys2Proof.Machine Sys2Proof.Spec Sys2Proof.Proofs.Load Sys2Proof.Proofs.ImpliedShape

theorem incRel_add_one (v : Byte) (f : Flags) : IncRel v f (v + 1) (setNZ (v + 1) f) :=
  ⟨BitVec.toNat_add v 1, setNZ_eq_nz (v + 1) f⟩

/-- One less is 255 more, mod 256. -/
theorem decRel_sub_one (v : Byte) (f : Flags) : DecRel v f (v - 1) (setNZ (v - 1) f) := by
  refine ⟨?_, setNZ_eq_nz (v - 1) f⟩
  rw [BitVec.toNat_sub, Nat.add_comm]
  rfl

/-- Settles O40: each of the four is one byte long, changes its own register by one and sets N and Z by it. -/
theorem incDecIndexRegisters : Obligations.IncDecIndexRegisters := by
  refine ⟨?inx, ?iny, ?dex, ?dey⟩
  case inx =>
    exact impliedResult_of_exec (act := fun u => flagNZ (u.x + 1) (setX (u.x + 1) u)) rfl (fun _ => rfl) rfl
      (fun _ => rfl) fun s _ => ⟨incRel_add_one s.x s.flags, rfl, rfl, rfl⟩
  case iny =>
    exact impliedResult_of_exec (act := fun u => flagNZ (u.y + 1) (setY (u.y + 1) u)) rfl (fun _ => rfl) rfl
      (fun _ => rfl) fun s _ => ⟨incRel_add_one s.y s.flags, rfl, rfl, rfl⟩
  case dex =>
    exact impliedResult_of_exec (act := fun u => flagNZ (u.x - 1) (setX (u.x - 1) u)) rfl (fun _ => rfl) rfl
      (fun _ => rfl) fun s _ => ⟨decRel_sub_one s.x s.flags, rfl, rfl, rfl⟩
  case dey =>
    exact impliedResult_of_exec (act := fun u => flagNZ (u.y - 1) (setY (u.y - 1) u)) rfl (fun _ => rfl) rfl
      (fun _ => rfl) fun s _ => ⟨decRel_sub_one s.y s.flags, rfl, rfl, rfl⟩

end Sys2Proof.Proofs.IncDec
end

section
/-! The frame of every read-modify-write instruction (R18, R118, R138), proved once for any computation on the byte and
the flags and for any table of operand forms; and the accumulator form of such a computation (R102). -/

namespace Sys2Proof.Proofs.RmwShape

open Sys2Proof.Machine Sys2Proof.Spec Sys2Proof.Proofs.ReadShape Sys2Proof.Proofs.ImpliedShape

/-- A row of a form table that belongs to the read-modify-write instruction computing `f` on the operand `m`: its
opcode, which pays for no crossing (R145), and its meaning. -/
structure IsRmwRow (f : Byte → Flags → Byte × Flags) (m : MemOperand) (row : FormRow) : Prop where
  opcode_eq : opcode row.instr = row.op
  penalty_eq : pagePenalty row.op = false
  exec_eq : ∀ s, exec row.instr s = rmwInstr row.op f m s

/-- A form table whose every row is the read-modify-write instruction computing `f`. -/
def IsRmwTable (f : Byte → Flags → Byte × Flags) (form : MemOperand → Option FormRow) : Prop :=
  ∀ m row, form m = some row → IsRmwRow f m row

/-- An opcode that is not penalised is charged its base, crossing or not. -/
theorem chargeOf_eq_baseCycles_of_not_penalised {op : Byte} (h : pagePenalty op = false) (cross : Bool) :
    chargeOf op cross 0 = baseCycles op := by
  rw [chargeOf_eq_base_add_crossCycle, h]
  rfl

section
variable (f : Byte → Flags → Byte × Flags) (m : MemOperand) (s : State) (balance : Int)

/-! What `rmwEffect` leaves, whatever the charge makes of the balance. -/

theorem rmwEffect_sameAXY : SameAXY s (setCycles balance (rmwEffect f m s)) := by
  simp [SameAXY, rmwEffect]

theorem rmwEffect_sp : (setCycles balance (rmwEffect f m s)).sp = s.sp := by
  simp [rmwEffect]

theorem rmwEffect_advanced : Advanced (memLength m) s (setCycles balance (rmwEffect f m s)) := by
  simp [Advanced, rmwEffect]

theorem rmwEffect_sameControl : SameControl s (setCycles balance (rmwEffect f m s)) := by
  simp [SameControl, rmwEffect]

/-- Memory differs from before by one write, of the byte computed from the one found at the effective address. -/
theorem rmwEffect_mem :
    (setCycles balance (rmwEffect f m s)).mem =
      s.mem.write (effAddr m s) (f (busRead (effAddr m s) s) s.flags).1 := by
  simp [rmwEffect]

variable {s} (hmem : s.mem.wf = true)
include hmem

theorem busRead_rmwEffect_same :
    busRead (effAddr m s) (setCycles balance (rmwEffect f m s)) = (f (busRead (effAddr m s) s) s.flags).1 := by
  rw [busRead_eq, rmwEffect_mem, Memory.read_write_same hmem]

theorem rmwEffect_sameMemExcept : SameMemExcept [effAddr m s] s (setCycles balance (rmwEffect f m s)) := by
  intro a hother
  rw [busRead_eq, rmwEffect_mem, Memory.read_write_other hmem _ (List.ne_of_not_mem_cons hother), busRead_eq]

end

/-- A read-modify-write instruction completes with its frame in every form of its table, once each row is its own and
the computation has the relation stated. -/
theorem rmwResult_of_table {form : MemOperand → Option FormRow} {f : Byte → Flags → Byte × Flags}
    {rel : Byte → Flags → Byte → Flags → Prop} (htable : IsRmwTable f form)
    (hrel : ∀ v g, rel v g (f v g).1 (f v g).2) : RmwResult form rel := by
  intro m row s hform hroom hmem
  obtain ⟨hop, hpenalty, hexec⟩ := htable m row hform
  refine ⟨_, (hexec s).trans (rmwInstr_of_room hroom), hop, ?rel, rmwEffect_sameMemExcept f m _ hmem,
    rmwEffect_sameAXY f m s _, rmwEffect_sp f m s _, rmwEffect_advanced f m s _, rmwEffect_sameControl f m s _,
    ?debit⟩
  case rel =>
    rw [busRead_rmwEffect_same f m _ hmem]
    exact hrel (busRead (effAddr m s) s) s.flags
  case debit =>
    have hcharge := chargeOf_eq_baseCycles_of_not_penalised hpenalty (pageCross m s)
    exact congrArg (fun n : Nat => s.cyclesAvailable - n) hcharge

/-- The accumulator form of a computation is an implied instruction on A and the flags, of 2 cycles. -/
theorem accResult_of_exec {i : Instr} {op : Byte} {f : Byte → Flags → Byte × Flags}
    {rel : Byte → Flags → Byte → Flags → Prop} (hop : opcode i = op) (hexec : ∀ s, exec i s = accInstr op f s)
    (hcycles : baseCycles op = 2) (hrel : ∀ v g, rel v g (f v g).1 (f v g).2) : AccResult i op rel :=
  impliedResult_of_exec (act := fun u => setFlags (f u.a u.flags).2 (setA (f u.a u.flags).1 u)) hop hexec hcycles
    (fun _ => rfl) fun s _ => ⟨hrel s.a s.flags, rfl, rfl, rfl⟩

end Sys2Proof.Proofs.RmwShape
end

section
/-! ASL, LSR, ROL and ROR (R220 to R223): a shift by one bit is doubling mod 256 or halving, and the bit of C a rotate
brings in takes the place the shift has emptied, so its OR is a sum. -/

namespace Sys2Proof.Proofs.Shift

open Sys2Proof.Machine Sys2Proof.Spec Sys2Proof.Proofs.State Sys2Proof.Proofs.Compare Sys2Proof.Proofs.Load
  Sys2Proof.Proofs.RmwShape

theorem shiftLeft_one_toNat (v : Byte) : (v <<< 1).toNat = 2 * v.toNat % 256 := by
  rw [BitVec.toNat_shiftLeft, Nat.shiftLeft_eq, Nat.mul_comm]

theorem shiftRight_one_toNat (v : Byte) : (v >>> 1).toNat = v.toNat / 2 :=
  BitVec.toNat_ushiftRight v 1

/-- Bit 0 of a byte says that it is odd. -/
theorem getLsbD_zero_eq (v : Byte) : v.getLsbD 0 = decide (v.toNat % 2 = 1) := by
  rw [← BitVec.testBit_toNat, Nat.testBit_zero]

/-- The C entering at bit 0 adds to the doubled byte. -/
theorem rol_result_toNat (v : Byte) (c : Bool) :
    (v <<< 1 ||| flagBit c 0).toNat = 2 * v.toNat % 256 + if c then 1 else 0 := by
  have hc : (flagBit c 0).toNat = if c then 1 else 0 := by cases c <;> rfl
  have heven : 2 * v.toNat % 256 = 2 ^ 1 * (v.toNat % 128) := by omega
  have hlt : (if c then 1 else 0) < 2 ^ 1 := by cases c <;> decide
  rw [BitVec.toNat_or, shiftLeft_one_toNat, hc, heven, Nat.two_pow_add_eq_or_of_lt hlt]

/-- The C entering at bit 7 adds 128 to the halved byte. -/
theorem ror_result_toNat (v : Byte) (c : Bool) :
    (v >>> 1 ||| flagBit c 7).toNat = v.toNat / 2 + if c then 128 else 0 := by
  have hlow : (v >>> 1).toNat < 2 ^ 7 := by
    rw [shiftRight_one_toNat]
    omega
  have hc : 2 ^ 7 * c.toNat = if c then 128 else 0 := by cases c <;> rfl
  rw [BitVec.or_comm, flagBit_or_toNat c (by decide) hlow, hc, shiftRight_one_toNat, Nat.add_comm]

/-- The flags of a left shift: C is a bound on the old byte, N and Z are those of the result. -/
theorem setNZ_carry_seven_eq (v r : Byte) (f : Flags) :
    setNZ r { f with c := v.getLsbD 7 } = nz r { f with c := decide (128 ≤ v.toNat) } := by
  rw [setNZ_eq_nz, getLsbD_seven_eq]

/-- The flags of a right shift: C is the parity of the old byte, N and Z are those of the result. -/
theorem setNZ_carry_zero_eq (v r : Byte) (f : Flags) :
    setNZ r { f with c := v.getLsbD 0 } = nz r { f with c := decide (v.toNat % 2 = 1) } := by
  rw [setNZ_eq_nz, getLsbD_zero_eq]

theorem aslRel_asl (v : Byte) (f : Flags) : AslRel v f (asl v f).1 (asl v f).2 :=
  ⟨shiftLeft_one_toNat v, setNZ_carry_seven_eq v _ f⟩

/-- A halved byte is under 128, so N is 0, and is 0 exactly when the byte was under 2. -/
theorem lsrRel_lsr (v : Byte) (f : Flags) : LsrRel v f (lsr v f).1 (lsr v f).2 := by
  have hn : (v >>> 1).getLsbD 7 = false := by
    rw [getLsbD_seven_eq, shiftRight_one_toNat, decide_eq_false_iff_not]
    omega
  have hz : (v >>> 1 == 0) = decide (v.toNat < 2) := by
    rw [Bool.beq_eq_decide_eq, decide_eq_decide, ← BitVec.toNat_inj, shiftRight_one_toNat]
    simp
  refine ⟨shiftRight_one_toNat v, ?_⟩
  rw [lsr, setNZ, hn, hz, getLsbD_zero_eq]

theorem rolRel_rol (v : Byte) (f : Flags) : RolRel v f (rol v f).1 (rol v f).2 :=
  ⟨rol_result_toNat v f.c, setNZ_carry_seven_eq v _ f⟩

theorem rorRel_ror (v : Byte) (f : Flags) : RorRel v f (ror v f).1 (ror v f).2 :=
  ⟨ror_result_toNat v f.c, setNZ_carry_zero_eq v _ f⟩

theorem aslForm_isRmwTable : IsRmwTable asl aslForm := by
  rintro (z | z | z | w | w | w | z | z) row ⟨⟩ <;> exact ⟨rfl, rfl, fun _ => rfl⟩

theorem lsrForm_isRmwTable : IsRmwTable lsr lsrForm := by
  rintro (z | z | z | w | w | w | z | z) row ⟨⟩ <;> exact ⟨rfl, rfl, fun _ => rfl⟩

theorem rolForm_isRmwTable : IsRmwTable rol rolForm := by
  rintro (z | z | z | w | w | w | z | z) row ⟨⟩ <;> exact ⟨rfl, rfl, fun _ => rfl⟩

theorem rorForm_isRmwTable : IsRmwTable ror rorForm := by
  rintro (z | z | z | w | w | w | z | z) row ⟨⟩ <;> exact ⟨rfl, rfl, fun _ => rfl⟩

/-- Settles O41: ASL and LSR are doubling mod 256 and halving, in A and in every memory form. -/
theorem shiftsMoveOneBit : Obligations.ShiftsMoveOneBit :=
  ⟨accResult_of_exec rfl (fun _ => rfl) rfl aslRel_asl, rmwResult_of_table aslForm_isRmwTable aslRel_asl,
    accResult_of_exec rfl (fun _ => rfl) rfl lsrRel_lsr, rmwResult_of_table lsrForm_isRmwTable lsrRel_lsr⟩

/-- Settles O42: ROL and ROR are the shifts with the old C added in the place emptied, in A and in every memory form. -/
theorem rotatesGoThroughCarry : Obligations.RotatesGoThroughCarry :=
  ⟨accResult_of_exec rfl (fun _ => rfl) rfl rolRel_rol, rmwResult_of_table rolForm_isRmwTable rolRel_rol,
    accResult_of_exec rfl (fun _ => rfl) rfl rorRel_ror, rmwResult_of_table rorForm_isRmwTable rorRel_ror⟩

end Sys2Proof.Proofs.Shift
end

section
/-! A pushed word (R250, R253): its high byte at the old SP, its low byte one below, and no other byte of memory. -/

namespace Sys2Proof.Proofs.PushWord

open Sys2Proof.Machine Sys2Proof.Proofs.Stack

/-- Two stack pointers have two places, so a push spares what other pushes left. -/
theorem stackAddr_inj {p q : Byte} : stackAddr p = stackAddr q ↔ p = q := by
  rw [← BitVec.toNat_inj, stackAddr_toNat, stackAddr_toNat, Nat.add_left_cancel_iff, BitVec.toNat_inj]

/-- The wrap of SP from 00 to FF included, the place below is another place. -/
theorem stackAddr_ne_stackAddr_sub_one (sp : Byte) : stackAddr sp ≠ stackAddr (sp - 1) := by
  rw [Ne, stackAddr_inj]
  bv_omega

theorem push_mem_wf {s : State} (hmem : s.mem.wf = true) (v : Byte) : (push v s).mem.wf = true :=
  Memory.write_wf hmem (stackAddr s.sp) v

section
variable {s : State} (hmem : s.mem.wf = true) (w : Addr)
include hmem

/-- The second push, of the low byte, leaves the high byte where the first has put it. -/
theorem busRead_pushWord_high : busRead (stackAddr s.sp) (pushWord w s) = hi8 w := by
  have hother : stackAddr s.sp ∉ [stackAddr (s.sp - 1)] :=
    mt List.mem_singleton.mp (stackAddr_ne_stackAddr_sub_one s.sp)
  calc busRead (stackAddr s.sp) (pushWord w s)
      = busRead (stackAddr s.sp) (push (hi8 w) s) := push_sameMemExcept (push_mem_wf hmem _) (lo8 w) _ hother
    _ = hi8 w := busRead_push_same hmem (hi8 w)

theorem busRead_pushWord_low : busRead (stackAddr (s.sp - 1)) (pushWord w s) = lo8 w :=
  busRead_push_same (push_mem_wf hmem (hi8 w)) (lo8 w)

theorem pushWord_sameMemExcept :
    SameMemExcept [stackAddr s.sp, stackAddr (s.sp - 1)] s (pushWord w s) := by
  intro a hother
  have hhigh : a ∉ [stackAddr s.sp] := mt List.mem_singleton.mp (List.ne_of_not_mem_cons hother)
  have hlow : a ∉ [stackAddr (s.sp - 1)] := List.not_mem_of_not_mem_cons hother
  calc busRead a (pushWord w s)
      = busRead a (push (hi8 w) s) := push_sameMemExcept (push_mem_wf hmem _) (lo8 w) a hlow
    _ = busRead a s := push_sameMemExcept hmem (hi8 w) a hhigh

end

end Sys2Proof.Proofs.PushWord
end

section
/-! JSR (R250): it pushes a word, goes to its target and is charged its base. -/

namespace Sys2Proof.Proofs.Jsr

open Sys2Proof.Machine Sys2Proof.Proofs.ImpliedShape Sys2Proof.Proofs.PushWord

/-- The state JSR leaves but for its charge. -/
def jsrEffect (target : Addr) (s : State) : State := setPC target (pushWord (s.pc + 2) (fetch 3 s))

theorem exec_jsr_of_room (target : Addr) {s : State} (hroom : HasRoom s) :
    exec (.jsr target) s = .next (setCycles (s.cyclesAvailable - chargeOf 0x20 false 0) (jsrEffect target s)) := by
  have hexec : exec (.jsr target) s = charge 0x20 0 (jsrEffect target s) := rfl
  have hbalance : (jsrEffect target s).cyclesAvailable = s.cyclesAvailable := by simp [jsrEffect]
  have hcross : (jsrEffect target s).pageCrossed = false := by simp [jsrEffect]
  rw [hexec, charge_of_ok (by rw [hbalance]; exact balanceOk_of_room hroom (chargeOf_le ..)), hbalance, hcross]

section
variable (target : Addr) (s : State) (balance : Int)

/-! What `jsrEffect` leaves, whatever the charge makes of the balance. -/

/-- Memory differs from before by the pushed return address alone. -/
theorem busRead_jsrEffect (a : Addr) :
    busRead a (setCycles balance (jsrEffect target s)) = busRead a (pushWord (s.pc + 2) s) := by
  simp [busRead_eq, jsrEffect]

theorem jsrEffect_sp : (setCycles balance (jsrEffect target s)).sp = s.sp - 2 := by
  simp only [setCycles_sp, jsrEffect, setPC_sp, pushWord_sp, fetch_sp]
  exact BitVec.sub_sub s.sp 1 1

theorem jsrEffect_sameAXY : SameAXY s (setCycles balance (jsrEffect target s)) := by
  simp [SameAXY, jsrEffect]

theorem jsrEffect_flags : (setCycles balance (jsrEffect target s)).flags = s.flags := by
  simp [jsrEffect]

theorem jsrEffect_sameControl : SameControl s (setCycles balance (jsrEffect target s)) := by
  simp [SameControl, jsrEffect]

end

/-- Settles O45: the return address is a pushed word, so R250 is what a pushed word leaves on the stack, with PC set to
the target. -/
theorem jsrPushesReturnAddress : Obligations.JsrPushesReturnAddress := by
  intro target s hroom hmem
  refine ⟨_, exec_jsr_of_room target hroom, rfl, rfl, ?high, ?low, ?mem, jsrEffect_sp .., jsrEffect_sameAXY ..,
    jsrEffect_flags .., jsrEffect_sameControl .., ?debit⟩
  case high => rw [busRead_jsrEffect, busRead_pushWord_high hmem, hi8_toNat]
  case low => rw [busRead_jsrEffect, busRead_pushWord_low hmem, lo8_toNat]
  case mem =>
    intro a hother
    rw [busRead_jsrEffect, pushWord_sameMemExcept hmem _ a hother]
  case debit =>
    have hcharge : chargeOf 0x20 false 0 = 6 := chargeOf_eq_baseCycles 0x20
    exact congrArg (fun n : Nat => s.cyclesAvailable - n) hcharge

end Sys2Proof.Proofs.Jsr
end

section
/-! The shapes of a one-byte push and of a one-byte pull as instructions (R119, R270 to R273), PHA and PLA, and the
round trip of the two (95 section 2, property 7). -/

namespace Sys2Proof.Proofs.PushPull

open Sys2Proof.Machine Sys2Proof.Spec Sys2Proof.Proofs.Load Sys2Proof.Proofs.Stack Sys2Proof.Proofs.ImpliedShape

section
variable {i : Instr} {op : Byte} {value : State → Byte}
  (hexec : ∀ s, exec i s = implied op (fun u => push (value u) u) s) (hvalue : ∀ s, value (fetch 1 s) = value s)
include hexec hvalue

/-- However much room there was, an instruction that has pushed has left SP one lower and its byte where SP was. -/
theorem pushed_of_exec_next {s t : State} (hmem : s.mem.wf = true) (h : exec i s = .next t) :
    t.sp = s.sp - 1 ∧ busRead (stackAddr s.sp) t = value s := by
  obtain ⟨-, rfl⟩ := implied_next ((hexec s).symm.trans h)
  exact ⟨rfl, (busRead_push_same (s := fetch 1 s) hmem _).trans (hvalue s)⟩

/-- An instruction that pushes a byte the fetch does not change completes as one push. -/
theorem pushResult_of_exec (hop : opcode i = op) (hcycles : baseCycles op = 3) : PushResult i op value := by
  intro s hroom hmem
  have hnext := (hexec s).trans (implied_of_room hroom rfl)
  obtain ⟨-, hbyte⟩ := pushed_of_exec_next hexec hvalue hmem hnext
  have hcharge : chargeOf op false 0 = 3 := (chargeOf_eq_baseCycles op).trans hcycles
  exact ⟨_, hnext, hop, hbyte, push_sameMemExcept (s := fetch 1 s) hmem (value (fetch 1 s)),
    push_sp_toNat (value (fetch 1 s)) (fetch 1 s), ⟨rfl, rfl, rfl⟩, rfl, rfl, ⟨rfl, rfl, rfl⟩,
    congrArg (fun n : Nat => s.cyclesAvailable - n) hcharge⟩

end

/-- An instruction that pulls a byte and then acts on the registers and the flags completes with its frame, once the
action has the effect stated. -/
theorem pullResult_of_exec {i : Instr} {op : Byte} {act : Byte → State → State} {effect : State → State → Prop}
    (hop : opcode i = op) (hexec : ∀ s, exec i s = implied op (fun u => act (pull u).1 (pull u).2) s)
    (hcycles : baseCycles op = 4) (hact : ∀ v, WritesRegistersFlags (act v))
    (heffect : ∀ s n, effect s (setCycles n (act (busRead (stackAddr (s.sp + 1)) s) (pull (fetch 1 s)).2))) :
    ImpliedResult i op 4 effect := by
  intro s hroom
  let u := (pull (fetch 1 s)).2
  have hu := hact (pull (fetch 1 s)).1 u
  have hcharge : chargeOf op (act (pull (fetch 1 s)).1 u).pageCrossed 0 = 4 := by
    rw [hu, pull_snd_pageCrossed, fetch_pageCrossed, chargeOf_eq_baseCycles, hcycles]
  have hbalance := (congrArg State.cyclesAvailable hu).trans (pull_snd_cyclesAvailable (fetch 1 s))
  refine ⟨_, (hexec s).trans (implied_of_room hroom hbalance), hop, heffect s _, ?pc, ?mem, ?control, ?debit⟩
  case pc => exact (congrArg State.pc hu).trans (pull_snd_pc (fetch 1 s))
  case mem =>
    have hmem : (act (pull (fetch 1 s)).1 u).mem = s.mem := (congrArg State.mem hu).trans (pull_snd_mem (fetch 1 s))
    exact fun a => congrArg (Memory.read · a) hmem
  case control =>
    exact ⟨(congrArg State.runState hu).trans (pull_snd_runState (fetch 1 s)),
      (congrArg State.haltReason hu).trans (pull_snd_haltReason (fetch 1 s)),
      (congrArg State.events hu).trans (pull_snd_events (fetch 1 s))⟩
  case debit => exact congrArg (fun n : Nat => s.cyclesAvailable - n) hcharge

/-- A pull takes SP back to where it was before a push, the wraps between 00 and FF included. -/
theorem sp_eq_of_push_of_pull {s t u : State} (hpush : t.sp = s.sp - 1)
    (hpull : u.sp.toNat = (t.sp.toNat + 1) % 256) : u.sp = s.sp := by
  have hnext : u.sp = t.sp + 1 := BitVec.eq_of_toNat_eq (hpull.trans (BitVec.toNat_add t.sp 1).symm)
  rw [hnext, hpush, BitVec.sub_add_cancel]

theorem phaResult : PushResult .pha 0x48 State.a :=
  pushResult_of_exec (fun _ => rfl) (fun _ => rfl) rfl rfl

theorem plaResult : ImpliedResult .pla 0x68 4 fun s t =>
    t.sp.toNat = (s.sp.toNat + 1) % 256 ∧ LoadEffect State.a State.x State.y (busRead (stackAddr t.sp) s) s t :=
  pullResult_of_exec (act := fun v u => flagNZ v (setA v u)) rfl (fun _ => rfl) rfl (fun _ _ => rfl) fun s _ =>
    ⟨pull_sp_toNat s, rfl, rfl, rfl, setNZ_eq_nz _ s.flags⟩

/-- Settles O49: one push and one pull; the pull reads where the push has written, since SP is back there. -/
theorem phaPushesAndPlaPulls : Obligations.PhaPushesAndPlaPulls := by
  refine ⟨phaResult, plaResult, fun s t v hmem hpha hroom => ?_⟩
  obtain ⟨hpush, hbyte⟩ := pushed_of_exec_next (value := State.a) (fun _ => rfl) (fun _ => rfl) hmem hpha
  obtain ⟨u, hpla, -, ⟨hpull, ha, -⟩, -⟩ := plaResult { t with a := v } hroom
  have hsp : u.sp = s.sp := sp_eq_of_push_of_pull hpush hpull
  refine ⟨u, hpla, ?_, hsp⟩
  calc u.a
      = busRead (stackAddr u.sp) t := ha
    _ = busRead (stackAddr s.sp) t := by rw [hsp]
    _ = s.a := hbyte

end Sys2Proof.Proofs.PushPull
end

section
/-! The register transfers (R274 to R279) and NOP (R287): implied instructions, of which the copies to A, X and Y set N
and Z of the byte copied (R116) and the copy to SP sets no flag. -/

namespace Sys2Proof.Proofs.Transfer

open Sys2Proof.Machine Sys2Proof.Spec Sys2Proof.Proofs.Load Sys2Proof.Proofs.ImpliedShape

/-- Settles O51: each of the five writes its destination and set_NZ of its source over the frame of an implied
instruction. -/
theorem transfersCopyAndSetNZ : Obligations.TransfersCopyAndSetNZ := by
  refine ⟨?tax, ?tay, ?tsx, ?txa, ?tya⟩
  case tax =>
    exact impliedResult_of_exec (act := fun u => flagNZ u.a (setX u.a u)) rfl (fun _ => rfl) rfl (fun _ => rfl)
      fun s _ => ⟨⟨rfl, rfl, rfl, setNZ_eq_nz s.a s.flags⟩, rfl⟩
  case tay =>
    exact impliedResult_of_exec (act := fun u => flagNZ u.a (setY u.a u)) rfl (fun _ => rfl) rfl (fun _ => rfl)
      fun s _ => ⟨⟨rfl, rfl, rfl, setNZ_eq_nz s.a s.flags⟩, rfl⟩
  case tsx =>
    exact impliedResult_of_exec (act := fun u => flagNZ u.sp (setX u.sp u)) rfl (fun _ => rfl) rfl (fun _ => rfl)
      fun s _ => ⟨⟨rfl, rfl, rfl, setNZ_eq_nz s.sp s.flags⟩, rfl⟩
  case txa =>
    exact impliedResult_of_exec (act := fun u => flagNZ u.x (setA u.x u)) rfl (fun _ => rfl) rfl (fun _ => rfl)
      fun s _ => ⟨⟨rfl, rfl, rfl, setNZ_eq_nz s.x s.flags⟩, rfl⟩
  case tya =>
    exact impliedResult_of_exec (act := fun u => flagNZ u.y (setA u.y u)) rfl (fun _ => rfl) rfl (fun _ => rfl)
      fun s _ => ⟨⟨rfl, rfl, rfl, setNZ_eq_nz s.y s.flags⟩, rfl⟩

/-- Settles O52: TXS writes SP alone and NOP nothing, over the frame of an implied instruction. -/
theorem txsAndNopWriteNoFlag : Obligations.TxsAndNopWriteNoFlag := by
  refine ⟨?txs, ?nop⟩
  case txs =>
    exact impliedResult_of_exec (act := fun u => setSP u.x u) rfl (fun _ => rfl) rfl (fun _ => rfl)
      fun _ _ => ⟨rfl, ⟨rfl, rfl, rfl⟩, rfl⟩
  case nop =>
    exact impliedResult_of_exec (act := id) rfl (fun _ => rfl) rfl (fun _ => rfl)
      fun _ _ => ⟨rfl, ⟨rfl, rfl, rfl⟩, rfl⟩

end Sys2Proof.Proofs.Transfer
end

section
/-! The flag instructions (R280 to R286): one shape, an implied instruction that replaces the flags by a function of
them. -/

namespace Sys2Proof.Proofs.FlagWrite

open Sys2Proof.Machine Sys2Proof.Spec Sys2Proof.Proofs.ImpliedShape

/-- An implied instruction that replaces the flags `f` by `write f` changes no register and nothing of the frame. -/
theorem flagResult_of_exec {i : Instr} {op : Byte} {write : Flags → Flags} (hop : opcode i = op)
    (hexec : ∀ s, exec i s = implied op (fun u => setFlags (write u.flags) u) s) (hcycles : baseCycles op = 2) :
    ImpliedResult i op 2 (FlagEffect write) :=
  impliedResult_of_exec hop hexec hcycles (fun _ => rfl) fun _ _ => ⟨rfl, ⟨rfl, rfl, rfl⟩, rfl⟩

/-- Settles O53: each of the seven replaces the flags by the old ones with its own flag cleared or set. -/
theorem flagInstructionsWriteOneFlag : Obligations.FlagInstructionsWriteOneFlag := by
  refine ⟨?clc, ?cld, ?cli, ?clv, ?sec, ?sed, ?sei⟩ <;> exact flagResult_of_exec rfl (fun _ => rfl) rfl

end Sys2Proof.Proofs.FlagWrite
end

section
/-! Decoder and encoder (R70 to R76): every instruction is read by its opcode into one of three forms, without an
operand, with a byte or with a word; the decoder answers no other opcode and no other operand. -/

namespace Sys2Proof.Proofs.Encoding

open Sys2Proof.Spec

/-- How an instruction is encoded: without an operand, or as one of a family over its operand, all with its opcode;
and what the decoder makes of that opcode and any two bytes. -/
inductive Encoded (i : Instr) : Prop
  | alone (hbytes : operandBytes i = []) (hdecode : ∀ lo hi, decodeOp (opcode i) lo hi = some i)
  | byte {build : Byte → Instr} (v : Byte) (hbuild : i = build v) (hop : ∀ u, opcode (build u) = opcode i)
      (hbytes : ∀ u, operandBytes (build u) = [u])
      (hdecode : ∀ lo hi, decodeOp (opcode i) lo hi = some (build lo))
  | word {build : Addr → Instr} (w : Addr) (hbuild : i = build w) (hop : ∀ u, opcode (build u) = opcode i)
      (hbytes : ∀ u, operandBytes (build u) = [lo8 u, hi8 u])
      (hdecode : ∀ lo hi, decodeOp (opcode i) lo hi = some (build (word16 hi lo)))

/-- Every instruction is encoded in the form that its mode says (R71). -/
theorem encoded : ∀ i : Instr, Encoded i
  | .brk | .php | .aslAcc | .clc | .plp | .rolAcc | .sec | .rti | .pha | .lsrAcc | .cli | .rts | .pla | .rorAcc | .sei
  | .dey | .txa | .tya | .txs | .tay | .tax | .clv | .tsx | .iny | .dex | .cld | .inx | .nop | .sed =>
    .alone rfl fun _ _ => by rw [opcode]; rfl
  | .oraImm v | .andImm v | .eorImm v | .adcImm v | .ldyImm v | .ldxImm v | .ldaImm v | .cpyImm v | .cmpImm v
  | .cpxImm v | .sbcImm v
  | .oraZp v | .aslZp v | .bitZp v | .andZp v | .rolZp v | .eorZp v | .lsrZp v | .adcZp v | .rorZp v | .styZp v
  | .staZp v | .stxZp v | .ldyZp v | .ldaZp v | .ldxZp v | .cpyZp v | .cmpZp v | .decZp v | .cpxZp v | .sbcZp v
  | .incZp v
  | .oraZpx v | .aslZpx v | .andZpx v | .rolZpx v | .eorZpx v | .lsrZpx v | .adcZpx v | .rorZpx v | .styZpx v
  | .staZpx v | .ldyZpx v | .ldaZpx v | .cmpZpx v | .decZpx v | .sbcZpx v | .incZpx v | .stxZpy v | .ldxZpy v
  | .oraIzx v | .andIzx v | .eorIzx v | .adcIzx v | .staIzx v | .ldaIzx v | .cmpIzx v | .sbcIzx v
  | .oraIzy v | .andIzy v | .eorIzy v | .adcIzy v | .staIzy v | .ldaIzy v | .cmpIzy v | .sbcIzy v
  | .bpl v | .bmi v | .bvc v | .bvs v | .bcc v | .bcs v | .bne v | .beq v =>
    .byte v rfl (fun _ => rfl) (fun _ => rfl) fun _ _ => by rw [opcode]; rfl
  | .jsr w | .jmpAbs w | .jmpInd w
  | .oraAbs w | .aslAbs w | .bitAbs w | .andAbs w | .rolAbs w | .eorAbs w | .lsrAbs w | .adcAbs w | .rorAbs w
  | .styAbs w | .staAbs w | .stxAbs w | .ldyAbs w | .ldaAbs w | .ldxAbs w | .cpyAbs w | .cmpAbs w | .decAbs w
  | .cpxAbs w | .sbcAbs w | .incAbs w
  | .oraAbx w | .aslAbx w | .andAbx w | .rolAbx w | .eorAbx w | .lsrAbx w | .adcAbx w | .rorAbx w | .staAbx w
  | .ldyAbx w | .ldaAbx w | .cmpAbx w | .decAbx w | .sbcAbx w | .incAbx w
  | .oraAby w | .andAby w | .eorAby w | .adcAby w | .staAby w | .ldaAby w | .ldxAby w | .cmpAby w | .sbcAby w =>
    .word w rfl (fun _ => rfl) (fun _ => rfl) fun _ _ => by rw [opcode]; rfl

/-- The opcode of an instruction is known to the decoder whatever bytes follow it (R76). -/
theorem decodeOp_opcode_ne_none (i : Instr) (lo hi : Byte) : decodeOp (opcode i) lo hi ≠ none := by
  cases encoded i with
  | alone _ hdecode => simp [hdecode]
  | byte _ _ _ _ hdecode => simp [hdecode]
  | word _ _ _ _ hdecode => simp [hdecode]

/-- The decoder reads an instruction back from its opcode and its operand bytes, whatever follows them. -/
theorem decodeOp_opcode_operandBytes (i : Instr) (rest : List Byte) :
    decodeOp (opcode i) ((operandBytes i ++ rest).getD 0 0) ((operandBytes i ++ rest).getD 1 0) = some i := by
  cases encoded i with
  | alone _ hdecode => exact hdecode _ _
  | byte v hbuild _ hbytes hdecode =>
    have hi : operandBytes i = [v] := hbuild ▸ hbytes v
    simp [hi, hdecode, ← hbuild]
  | word w hbuild _ hbytes hdecode =>
    have hi : operandBytes i = [lo8 w, hi8 w] := hbuild ▸ hbytes w
    simp [hi, hdecode, word16_hi8_lo8, ← hbuild]

/-- What the decoder answers on an instruction's opcode has that opcode and the bytes it was read from. -/
theorem encode_of_decodeOp_opcode {i j : Instr} {lo hi : Byte} (h : decodeOp (opcode i) lo hi = some j) :
    encode j = [opcode i, lo, hi].take j.length := by
  rw [← operandBytes_length, List.take_succ_cons]
  cases encoded i with
  | alone hbytes hdecode =>
    obtain rfl := Option.some.inj ((hdecode lo hi).symm.trans h)
    simp [encode, hbytes]
  | byte _ _ hop hbytes hdecode =>
    obtain rfl := Option.some.inj ((hdecode lo hi).symm.trans h)
    simp [encode, hbytes, hop]
  | word _ _ hop hbytes hdecode =>
    obtain rfl := Option.some.inj ((hdecode lo hi).symm.trans h)
    simp [encode, hbytes, hop, lo8_word16, hi8_word16]

/-- A listed opcode is refused whatever bytes follow it. -/
theorem decodeOp_of_mem_unknownOpcodes {op : Byte} (hop : op ∈ unknownOpcodes) (lo hi : Byte) :
    decodeOp op lo hi = none := by
  fin_cases hop <;> rfl

/-- Every opcode that is not listed is some instruction's. -/
theorem exists_opcode_eq {op : Byte} (hop : op ∉ unknownOpcodes) : ∃ i, opcode i = op := by
  have hknown : ∀ op, (decodeOp op 0 0).map opcode = some op ∨ op ∈ unknownOpcodes := by decide
  obtain ⟨i, -, hi⟩ := Option.map_eq_some_iff.mp ((hknown op).resolve_right hop)
  exact ⟨i, hi⟩

/-- The opcode alone decides whether the decoder answers (R74, R76). -/
theorem decodeOp_eq_none_iff (op lo hi : Byte) : decodeOp op lo hi = none ↔ op ∈ unknownOpcodes := by
  refine ⟨fun hnone => ?_, fun hop => decodeOp_of_mem_unknownOpcodes hop lo hi⟩
  by_contra hop
  obtain ⟨i, rfl⟩ := exists_opcode_eq hop
  exact decodeOp_opcode_ne_none i lo hi hnone

/-- Whether RTI is implemented matters to its own opcode alone. -/
theorem decodeOpFor_false_of_ne {op : Byte} (hop : op ≠ 0x40) (lo hi : Byte) :
    decodeOpFor false op lo hi = decodeOp op lo hi := by
  have hrow4 : op.toNat / 16 = 4 → decodeRow4 false (op.toNat % 16) lo hi = decodeRow4 true (op.toNat % 16) lo hi := by
    intro hrow
    have hcol : op.toNat % 16 ≠ 0 := by bv_omega
    unfold decodeRow4
    split
    · contradiction
    all_goals rfl
  simp only [decodeOp, Config.rtiImplemented, decodeOpFor]
  split
  case h_5 hrow => exact hrow4 hrow
  all_goals rfl

/-- Settles O2: the decoder finds the instruction from its opcode and operand bytes, which are as many as it drops. -/
theorem decodeOfEncode : Obligations.DecodeOfEncode := by
  intro i rest _
  have hlength : (encode i).length = i.length := operandBytes_length i
  have henough : ¬(operandBytes i ++ rest).length + 1 < i.length := by
    rw [← operandBytes_length, List.length_append]
    omega
  have hrest : (encode i ++ rest).drop i.length = rest := hlength ▸ List.drop_left
  calc decode (encode i ++ rest)
      = .ok i ((encode i ++ rest).drop i.length) := by
        simp only [encode, List.cons_append, decode, decodeOp_opcode_operandBytes, if_neg henough]
    _ = .ok i rest := by rw [hrest]

/-- Settles O3: an opcode the decoder knows is some instruction's, and its form says which bytes the answer keeps. -/
theorem encodeOfDecode : Obligations.EncodeOfDecode := by
  intro op lo hi i h
  have hop : op ∉ unknownOpcodes := fun hmem => by
    rw [decodeOp_of_mem_unknownOpcodes hmem] at h
    cases h
  obtain ⟨j, rfl⟩ := exists_opcode_eq hop
  exact ⟨rfl, encode_of_decodeOp_opcode h⟩

/-- Settles O4: the listed bytes are those no instruction has as its opcode, and RTI's is 0x40. -/
theorem exactlyTheListedBytesAreUnknown : Obligations.ExactlyTheListedBytesAreUnknown := by
  refine ⟨by decide, fun op lo hi => ⟨decodeOp_eq_none_iff op lo hi, ?_⟩⟩
  by_cases hop : op = 0x40
  · subst hop
    exact iff_of_true rfl (.inr rfl)
  · rw [decodeOpFor_false_of_ne hop, decodeOp_eq_none_iff, or_iff_left hop]

/-- Settles O1: each word is short enough to be decoded by evaluation. -/
theorem documentedWordsDecode : Obligations.DocumentedWordsDecode := by
  unfold Obligations.DocumentedWordsDecode
  decide

end Sys2Proof.Proofs.Encoding
end

section
/-! What every instruction is, said once: its mnemonic and operand make it one of the shapes of Machine/Shapes.lean.
The statements about all instructions are then proved shape by shape, and mnemonic by mnemonic where the effect
matters. -/

namespace Sys2Proof.Proofs.InstrShape

open Sys2Proof.Machine Sys2Proof.Proofs.Jsr Sys2Proof.Proofs.ReadShape

/-- The effect of each *read* mnemonic on its operand byte (R160 to R162, R181 to R189). -/
inductive ReadAct : Mnemonic → (Byte → State → State) → Prop
  | lda : ReadAct .lda loadA
  | ldx : ReadAct .ldx loadX
  | ldy : ReadAct .ldy loadY
  | adc : ReadAct .adc adcA
  | sbc : ReadAct .sbc sbcA
  | and : ReadAct .and andA
  | ora : ReadAct .ora oraA
  | eor : ReadAct .eor eorA
  | cmp : ReadAct .cmp cmpA
  | cpx : ReadAct .cpx cmpX
  | cpy : ReadAct .cpy cmpY
  | bit : ReadAct .bit bitA

/-- The register each *write* mnemonic stores (R163 to R165). -/
inductive StoreSource : Mnemonic → (State → Byte) → Prop
  | sta : StoreSource .sta State.a
  | stx : StoreSource .stx State.x
  | sty : StoreSource .sty State.y

/-- What each mnemonic of the *RMW* class computes of a byte and the flags (R190, R191, R220 to R223). -/
inductive ByteFun : Mnemonic → (Byte → Flags → Byte × Flags) → Prop
  | asl : ByteFun .asl asl
  | lsr : ByteFun .lsr lsr
  | rol : ByteFun .rol rol
  | ror : ByteFun .ror ror
  | inc : ByteFun .inc incByte
  | dec : ByteFun .dec decByte

/-- The condition of each branch mnemonic (R241 to R248). -/
inductive BranchCond : Mnemonic → (Flags → Bool) → Prop
  | bcc : BranchCond .bcc fun f => !f.c
  | bcs : BranchCond .bcs fun f => f.c
  | beq : BranchCond .beq fun f => f.z
  | bmi : BranchCond .bmi fun f => f.n
  | bne : BranchCond .bne fun f => !f.z
  | bpl : BranchCond .bpl fun f => !f.n
  | bvc : BranchCond .bvc fun f => !f.v
  | bvs : BranchCond .bvs fun f => f.v

/-- The action of each instruction of one byte that names no operand, after its fetch. -/
inductive ImpliedAct : Instr → (State → State) → Prop
  | brk : ImpliedAct .brk trapEntry
  | php : ImpliedAct .php fun u => push (pack u.flags) u
  | plp : ImpliedAct .plp fun u => setFlags (unpack (pull u).1) (pull u).2
  | pha : ImpliedAct .pha fun u => push u.a u
  | pla : ImpliedAct .pla fun u => flagNZ (pull u).1 (setA (pull u).1 (pull u).2)
  | rti : ImpliedAct .rti trapReturn
  | rts : ImpliedAct .rts fun u => setPC ((pullWord u).1 + 1) (pullWord u).2
  | clc : ImpliedAct .clc fun u => setFlags { u.flags with c := false } u
  | sec : ImpliedAct .sec fun u => setFlags { u.flags with c := true } u
  | cli : ImpliedAct .cli fun u => setFlags { u.flags with i := false } u
  | sei : ImpliedAct .sei fun u => setFlags { u.flags with i := true } u
  | cld : ImpliedAct .cld fun u => setFlags { u.flags with d := false } u
  | sed : ImpliedAct .sed fun u => setFlags { u.flags with d := true } u
  | clv : ImpliedAct .clv fun u => setFlags { u.flags with v := false } u
  | inx : ImpliedAct .inx fun u => flagNZ (u.x + 1) (setX (u.x + 1) u)
  | iny : ImpliedAct .iny fun u => flagNZ (u.y + 1) (setY (u.y + 1) u)
  | dex : ImpliedAct .dex fun u => flagNZ (u.x - 1) (setX (u.x - 1) u)
  | dey : ImpliedAct .dey fun u => flagNZ (u.y - 1) (setY (u.y - 1) u)
  | tax : ImpliedAct .tax fun u => flagNZ u.a (setX u.a u)
  | tay : ImpliedAct .tay fun u => flagNZ u.a (setY u.a u)
  | tsx : ImpliedAct .tsx fun u => flagNZ u.sp (setX u.sp u)
  | txa : ImpliedAct .txa fun u => flagNZ u.x (setA u.x u)
  | tya : ImpliedAct .tya fun u => flagNZ u.y (setA u.y u)
  | txs : ImpliedAct .txs fun u => setSP u.x u
  | nop : ImpliedAct .nop id

/-- The operand of a *read* instruction: its memory operand, or a byte in mode IMM. -/
def IsOperand (i : Instr) : Operand → Prop
  | .imm _ => i.mode = .imm
  | .mem m => memOperand? i = some m

/-- The shape of an instruction, with the tables' row that the statements need of it: no shape but `read` pays for a
crossing (R145), and a branch has 2 base cycles (R144). -/
inductive Shape : Instr → Prop
  | read {i act o} (hact : ReadAct i.mnemonic act) (hexec : ∀ s, exec i s = readInstr (opcode i) act o s)
      (ho : IsOperand i o) : Shape i
  | store {i src m} (hsrc : StoreSource i.mnemonic src) (hexec : ∀ s, exec i s = storeInstr (opcode i) src m s)
      (hm : memOperand? i = some m) (hplus : pagePenalty (opcode i) = false) : Shape i
  | rmw {i f m} (hf : ByteFun i.mnemonic f) (hexec : ∀ s, exec i s = rmwInstr (opcode i) f m s)
      (hm : memOperand? i = some m) (hplus : pagePenalty (opcode i) = false) : Shape i
  | acc {i f} (hf : ByteFun i.mnemonic f) (hexec : ∀ s, exec i s = accInstr (opcode i) f s)
      (hmode : i.mode = .acc) (hplus : pagePenalty (opcode i) = false) : Shape i
  | implied {i act} (hact : ImpliedAct i act) (hexec : ∀ s, exec i s = implied (opcode i) act s) : Shape i
  | branch {i cond disp} (hcond : BranchCond i.mnemonic cond)
      (hexec : ∀ s, exec i s = branch (opcode i) cond disp s) (hmode : i.mode = .rel)
      (hplus : pagePenalty (opcode i) = false) (hcycles : baseCycles (opcode i) = 2) : Shape i
  | jmpAbs (w : Addr) : Shape (.jmpAbs w)
  | jmpInd (ptr : Addr) : Shape (.jmpInd ptr)
  | jsr (w : Addr) : Shape (.jsr w)

/-- Every instruction has its shape. -/
theorem shape : ∀ i : Instr, Shape i
  | .ldaImm _ | .ldaZp _ | .ldaZpx _ | .ldaAbs _ | .ldaAbx _ | .ldaAby _ | .ldaIzx _ | .ldaIzy _ =>
    .read .lda (fun _ => rfl) (by simp [IsOperand])
  | .ldxImm _ | .ldxZp _ | .ldxZpy _ | .ldxAbs _ | .ldxAby _ => .read .ldx (fun _ => rfl) (by simp [IsOperand])
  | .ldyImm _ | .ldyZp _ | .ldyZpx _ | .ldyAbs _ | .ldyAbx _ => .read .ldy (fun _ => rfl) (by simp [IsOperand])
  | .adcImm _ | .adcZp _ | .adcZpx _ | .adcAbs _ | .adcAbx _ | .adcAby _ | .adcIzx _ | .adcIzy _ =>
    .read .adc (fun _ => rfl) (by simp [IsOperand])
  | .sbcImm _ | .sbcZp _ | .sbcZpx _ | .sbcAbs _ | .sbcAbx _ | .sbcAby _ | .sbcIzx _ | .sbcIzy _ =>
    .read .sbc (fun _ => rfl) (by simp [IsOperand])
  | .andImm _ | .andZp _ | .andZpx _ | .andAbs _ | .andAbx _ | .andAby _ | .andIzx _ | .andIzy _ =>
    .read .and (fun _ => rfl) (by simp [IsOperand])
  | .oraImm _ | .oraZp _ | .oraZpx _ | .oraAbs _ | .oraAbx _ | .oraAby _ | .oraIzx _ | .oraIzy _ =>
    .read .ora (fun _ => rfl) (by simp [IsOperand])
  | .eorImm _ | .eorZp _ | .eorZpx _ | .eorAbs _ | .eorAbx _ | .eorAby _ | .eorIzx _ | .eorIzy _ =>
    .read .eor (fun _ => rfl) (by simp [IsOperand])
  | .cmpImm _ | .cmpZp _ | .cmpZpx _ | .cmpAbs _ | .cmpAbx _ | .cmpAby _ | .cmpIzx _ | .cmpIzy _ =>
    .read .cmp (fun _ => rfl) (by simp [IsOperand])
  | .cpxImm _ | .cpxZp _ | .cpxAbs _ => .read .cpx (fun _ => rfl) (by simp [IsOperand])
  | .cpyImm _ | .cpyZp _ | .cpyAbs _ => .read .cpy (fun _ => rfl) (by simp [IsOperand])
  | .bitZp _ | .bitAbs _ => .read .bit (fun _ => rfl) (by simp [IsOperand])
  | .staZp _ | .staZpx _ | .staAbs _ | .staAbx _ | .staAby _ | .staIzx _ | .staIzy _ =>
    .store .sta (fun _ => rfl) (by simp) rfl
  | .stxZp _ | .stxZpy _ | .stxAbs _ => .store .stx (fun _ => rfl) (by simp) rfl
  | .styZp _ | .styZpx _ | .styAbs _ => .store .sty (fun _ => rfl) (by simp) rfl
  | .aslZp _ | .aslZpx _ | .aslAbs _ | .aslAbx _ => .rmw .asl (fun _ => rfl) (by simp) rfl
  | .lsrZp _ | .lsrZpx _ | .lsrAbs _ | .lsrAbx _ => .rmw .lsr (fun _ => rfl) (by simp) rfl
  | .rolZp _ | .rolZpx _ | .rolAbs _ | .rolAbx _ => .rmw .rol (fun _ => rfl) (by simp) rfl
  | .rorZp _ | .rorZpx _ | .rorAbs _ | .rorAbx _ => .rmw .ror (fun _ => rfl) (by simp) rfl
  | .incZp _ | .incZpx _ | .incAbs _ | .incAbx _ => .rmw .inc (fun _ => rfl) (by simp) rfl
  | .decZp _ | .decZpx _ | .decAbs _ | .decAbx _ => .rmw .dec (fun _ => rfl) (by simp) rfl
  | .aslAcc => .acc .asl (fun _ => rfl) rfl rfl
  | .lsrAcc => .acc .lsr (fun _ => rfl) rfl rfl
  | .rolAcc => .acc .rol (fun _ => rfl) rfl rfl
  | .rorAcc => .acc .ror (fun _ => rfl) rfl rfl
  | .brk => .implied .brk fun _ => rfl
  | .php => .implied .php fun _ => rfl
  | .plp => .implied .plp fun _ => rfl
  | .pha => .implied .pha fun _ => rfl
  | .pla => .implied .pla fun _ => rfl
  | .rti => .implied .rti fun _ => rfl
  | .rts => .implied .rts fun _ => rfl
  | .clc => .implied .clc fun _ => rfl
  | .sec => .implied .sec fun _ => rfl
  | .cli => .implied .cli fun _ => rfl
  | .sei => .implied .sei fun _ => rfl
  | .cld => .implied .cld fun _ => rfl
  | .sed => .implied .sed fun _ => rfl
  | .clv => .implied .clv fun _ => rfl
  | .inx => .implied .inx fun _ => rfl
  | .iny => .implied .iny fun _ => rfl
  | .dex => .implied .dex fun _ => rfl
  | .dey => .implied .dey fun _ => rfl
  | .tax => .implied .tax fun _ => rfl
  | .tay => .implied .tay fun _ => rfl
  | .tsx => .implied .tsx fun _ => rfl
  | .txa => .implied .txa fun _ => rfl
  | .tya => .implied .tya fun _ => rfl
  | .txs => .implied .txs fun _ => rfl
  | .nop => .implied .nop fun _ => rfl
  | .bcc _ => .branch .bcc (fun _ => rfl) rfl rfl (by rw [opcode]; rfl)
  | .bcs _ => .branch .bcs (fun _ => rfl) rfl rfl (by rw [opcode]; rfl)
  | .beq _ => .branch .beq (fun _ => rfl) rfl rfl (by rw [opcode]; rfl)
  | .bmi _ => .branch .bmi (fun _ => rfl) rfl rfl (by rw [opcode]; rfl)
  | .bne _ => .branch .bne (fun _ => rfl) rfl rfl (by rw [opcode]; rfl)
  | .bpl _ => .branch .bpl (fun _ => rfl) rfl rfl (by rw [opcode]; rfl)
  | .bvc _ => .branch .bvc (fun _ => rfl) rfl rfl (by rw [opcode]; rfl)
  | .bvs _ => .branch .bvs (fun _ => rfl) rfl rfl (by rw [opcode]; rfl)
  | .jmpAbs w => .jmpAbs w
  | .jmpInd ptr => .jmpInd ptr
  | .jsr w => .jsr w

/-! ### The class, the mode and the operand that a shape's mnemonic implies -/

theorem ReadAct.mem_readMnemonics {mn act} (h : ReadAct mn act) : mn ∈ readMnemonics := by
  cases h <;> decide

theorem ReadAct.writesAXYFlags {mn act} (h : ReadAct mn act) : WritesAXYFlags act := by
  cases h <;> exact fun _ _ => rfl

theorem StoreSource.mem_writeMnemonics {mn src} (h : StoreSource mn src) :
    mn ∉ readMnemonics ∧ mn ∈ writeMnemonics := by
  cases h <;> decide

theorem ByteFun.mem_rmwMnemonics {mn f} (h : ByteFun mn f) :
    mn ∉ readMnemonics ∧ mn ∉ writeMnemonics ∧ mn ∈ rmwMnemonics := by
  cases h <;> decide

theorem BranchCond.not_mem_class {mn cond} (h : BranchCond mn cond) :
    mn ∉ readMnemonics ∧ mn ∉ writeMnemonics ∧ mn ∉ rmwMnemonics := by
  cases h <;> decide

theorem BranchCond.branchCond?_eq {mn cond} (h : BranchCond mn cond) (f : Flags) :
    branchCond? mn f = some (cond f) := by
  cases h <;> rfl

/-- The mnemonics of the three classes of R18. -/
def classMnemonics : List Mnemonic := readMnemonics ++ writeMnemonics ++ rmwMnemonics

theorem ReadAct.mem_classMnemonics {mn act} (h : ReadAct mn act) : mn ∈ classMnemonics := by
  cases h <;> decide

theorem StoreSource.mem_classMnemonics {mn src} (h : StoreSource mn src) : mn ∈ classMnemonics := by
  cases h <;> decide

theorem ByteFun.mem_classMnemonics {mn f} (h : ByteFun mn f) : mn ∈ classMnemonics := by
  cases h <;> decide

theorem branchCond?_of_mem_class {mn : Mnemonic} (h : mn ∈ classMnemonics) (f : Flags) : branchCond? mn f = none := by
  fin_cases h <;> rfl

/-- The mnemonics that push or pull. -/
def stackMnemonics : List Mnemonic := [.jsr, .rts, .rti, .brk, .pha, .php, .pla, .plp]

theorem not_mem_stack_of_mem_class {mn : Mnemonic} (h : mn ∈ classMnemonics) : mn ∉ stackMnemonics := by
  revert mn
  decide

theorem BranchCond.not_mem_stack {mn cond} (h : BranchCond mn cond) : mn ∉ stackMnemonics := by
  cases h <;> decide

/-- The mode of a memory operand (R71). -/
def modeOf : MemOperand → AddrMode
  | .zp _ => .zp | .zpx _ => .zpx | .zpy _ => .zpy | .abs _ => .abs
  | .abx _ => .abx | .aby _ => .aby | .izx _ => .izx | .izy _ => .izy

theorem mode_of_memOperandOf {mode : AddrMode} {lo hi : Byte} {m : MemOperand} (h : memOperandOf mode lo hi = some m) :
    mode = modeOf m := by
  cases mode <;> cases h <;> rfl

theorem mode_of_memOperand? {i : Instr} {m : MemOperand} (h : memOperand? i = some m) : i.mode = modeOf m := by
  unfold memOperand? at h
  split at h
  · cases h
  · exact mode_of_memOperandOf h

/-- A memory operand is in none of the modes that have no effective address. -/
theorem modeOf_ne (m : MemOperand) : modeOf m ≠ .acc ∧ modeOf m ≠ .ind ∧ modeOf m ≠ .rel := by
  cases m <;> exact ⟨nofun, nofun, nofun⟩

theorem modeOf_length (m : MemOperand) : (modeOf m).length = memLength m := by
  cases m <;> rfl

theorem length_of_memOperand? {i : Instr} {m : MemOperand} (h : memOperand? i = some m) : i.length = memLength m := by
  rw [Instr.length, mode_of_memOperand? h, modeOf_length]

theorem mode_of_pageCross {m : MemOperand} {s : State} (h : pageCross m s = true) :
    modeOf m = .abx ∨ modeOf m = .aby ∨ modeOf m = .izy := by
  cases m with
  | abx w => exact .inl rfl
  | aby w => exact .inr (.inl rfl)
  | izy z => exact .inr (.inr rfl)
  | _ => cases h

theorem instrClass_of_readAct {i act} (h : ReadAct i.mnemonic act) : instrClass i = .read := by
  simp [instrClass, h.mem_readMnemonics]

theorem instrClass_of_storeSource {i src} (h : StoreSource i.mnemonic src) : instrClass i = .write := by
  obtain ⟨hread, hwrite⟩ := h.mem_writeMnemonics
  simp [instrClass, hread, hwrite]

/-- A mnemonic of the *RMW* class is in that class in a memory mode only (R18). -/
theorem instrClass_of_byteFun {i f} (h : ByteFun i.mnemonic f) :
    instrClass i = if i.mode = .acc then .other else .rmw := by
  obtain ⟨hread, hwrite, hrmw⟩ := h.mem_rmwMnemonics
  by_cases hmode : i.mode = .acc <;> simp [instrClass, hread, hwrite, hrmw, hmode]

theorem instrClass_of_rmw {i f m} (h : ByteFun i.mnemonic f) (hm : memOperand? i = some m) : instrClass i = .rmw := by
  have hmode : i.mode ≠ .acc := by
    rw [mode_of_memOperand? hm]
    exact (modeOf_ne m).1
  rw [instrClass_of_byteFun h, if_neg hmode]

theorem instrClass_of_acc {i f} (h : ByteFun i.mnemonic f) (hmode : i.mode = .acc) : instrClass i = .other := by
  rw [instrClass_of_byteFun h, if_pos hmode]

theorem instrClass_of_branchCond {i cond} (h : BranchCond i.mnemonic cond) : instrClass i = .other := by
  obtain ⟨hread, hwrite, hrmw⟩ := h.not_mem_class
  simp [instrClass, hread, hwrite, hrmw]

/-! ### The effect of an instruction -/

/-- Where a branch goes (R240): to its target, or past itself. -/
def branchPC (cond : Flags → Bool) (disp : Byte) (s : State) : Addr :=
  if cond s.flags then branchTarget (s.pc + 2) disp else s.pc + 2

/-- A branch that answers a next state has moved PC, and has been charged. -/
theorem branch_next_pc {op : Byte} {cond : Flags → Bool} {disp : Byte} {s t : State}
    (h : branch op cond disp s = .next t) : ∃ n, t = setCycles n (setPC (branchPC cond disp s) (fetch 2 s)) := by
  have ht := branch_next h
  unfold branchPC
  split_ifs at ht ⊢
  · exact ⟨_, ht⟩
  · exact ⟨_, ht⟩

/-- The state an instruction has made of `s` when its charge is due. -/
inductive Effect (s : State) : Instr → State → Prop
  | read {i act o} (hact : ReadAct i.mnemonic act) (ho : IsOperand i o) :
      Effect s i (act (operandValue o s) (operandRead o (fetch (operandLength o) s)))
  | store {i src m} (hsrc : StoreSource i.mnemonic src) (hm : memOperand? i = some m) : Effect s i (storeEffect src m s)
  | rmw {i f m} (hf : ByteFun i.mnemonic f) (hm : memOperand? i = some m) : Effect s i (rmwEffect f m s)
  | acc {i f} (hf : ByteFun i.mnemonic f) (hmode : i.mode = .acc) : Effect s i (accEffect f s)
  | implied {i act} (hact : ImpliedAct i act) : Effect s i (act (fetch 1 s))
  | branch {i cond} (hcond : BranchCond i.mnemonic cond) (hmode : i.mode = .rel) (disp : Byte) :
      Effect s i (setPC (branchPC cond disp s) (fetch 2 s))
  | jmpAbs (w : Addr) : Effect s (.jmpAbs w) (setPC w (fetch 3 s))
  | jmpInd (ptr : Addr) :
      Effect s (.jmpInd ptr) (setPC (jmpIndTarget false ptr s) (logReads [ptr, ptr + 1] (fetch 3 s)))
  | jsr (w : Addr) : Effect s (.jsr w) (jsrEffect w s)

/-- An instruction that answers a next state has had its effect and been charged, which changes the balance alone. -/
theorem exec_next {i : Instr} {s t : State} (h : exec i s = .next t) :
    ∃ u n, Effect s i u ∧ t = setCycles n u := by
  cases shape i with
  | read hact hexec ho => exact ⟨_, _, .read hact ho, (readInstr_next ((hexec s).symm.trans h)).2⟩
  | store hsrc hexec hm => exact ⟨_, _, .store hsrc hm, storeInstr_next ((hexec s).symm.trans h)⟩
  | rmw hf hexec hm => exact ⟨_, _, .rmw hf hm, rmwInstr_next ((hexec s).symm.trans h)⟩
  | acc hf hexec hmode => exact ⟨_, _, .acc hf hmode, accInstr_next ((hexec s).symm.trans h)⟩
  | implied hact hexec => exact ⟨_, _, .implied hact, (implied_next ((hexec s).symm.trans h)).2⟩
  | branch hcond hexec hmode =>
    obtain ⟨n, ht⟩ := branch_next_pc ((hexec s).symm.trans h)
    exact ⟨_, n, .branch hcond hmode _, ht⟩
  | jmpAbs w => exact ⟨_, _, .jmpAbs w, (charge_next h).2⟩
  | jmpInd ptr => exact ⟨_, _, .jmpInd ptr, (charge_next h).2⟩
  | jsr w => exact ⟨_, _, .jsr w, (charge_next h).2⟩

end Sys2Proof.Proofs.InstrShape
end

section
/-! What instructions change, said of all of them: memory at the addresses stored to, the run state by BRK alone, and
each register and flag by its listed writers (R21 to R26, R53, R58, R139). -/

namespace Sys2Proof.Proofs.Frame

open Sys2Proof.Machine Sys2Proof.Spec Sys2Proof.Proofs.InstrShape Sys2Proof.Proofs.ReadShape Sys2Proof.Proofs.Jsr

/-! ### Memory -/

/-- One memory comes from another by writes at the addresses listed, in order. -/
inductive Stored : List Addr → Memory → Memory → Prop
  | none (m : Memory) : Stored [] m m
  | write {as : List Addr} {m m' : Memory} (a : Addr) (v : Byte) (rest : Stored as (m.write a v) m') :
      Stored (a :: as) m m'

theorem Stored.wf {as : List Addr} {m m' : Memory} (h : Stored as m m') (hm : m.wf = true) : m'.wf = true := by
  induction h with
  | none => exact hm
  | write a v _ ih => exact ih (Memory.write_wf hm a v)

theorem Stored.read_other {as : List Addr} {m m' : Memory} (h : Stored as m m') (hm : m.wf = true) {a : Addr}
    (ha : a ∉ as) : m'.read a = m.read a := by
  induction h with
  | none => rfl
  | write b v _ ih =>
    obtain ⟨hne, hrest⟩ := not_or.mp (mt List.mem_cons.mpr ha)
    rw [ih (Memory.write_wf hm b v) hrest, Memory.read_write_other hm v hne]

/-- An instruction outside the classes that write, without a push, stores nothing. -/
theorem storedAddrs_of_not_mem_stack {i : Instr} (hclass : instrClass i = .read ∨ instrClass i = .other)
    (hstack : i.mnemonic ∉ stackMnemonics) (s : State) : storedAddrs i s = [] := by
  have hwrites : (instrClass i = .write || instrClass i = .rmw : Bool) = false := by
    obtain h | h := hclass <;> rw [h] <;> rfl
  unfold storedAddrs
  rw [hwrites]
  revert hstack
  cases i.mnemonic <;> simp [stackMnemonics]

theorem storedAddrs_of_writes {i : Instr} {m : MemOperand} (hclass : instrClass i = .write ∨ instrClass i = .rmw)
    (hm : memOperand? i = some m) (s : State) : storedAddrs i s = [effAddr m s] := by
  obtain h | h := hclass <;> simp [storedAddrs, h, hm]

/-- The trap entry (R304) writes three bytes: PC, high byte first, and the packed flags. -/
theorem trapEntry_mem (u : State) :
    (trapEntry u).mem = ((u.mem.write (stackAddr u.sp) (hi8 u.pc)).write (stackAddr (u.sp - 1)) (lo8 u.pc)).write
      (stackAddr (u.sp - 2)) (pack u.flags) := by
  have hthird : u.sp - 1 - 1 = u.sp - 2 := BitVec.sub_sub u.sp 1 1
  rw [← hthird]
  simp [trapEntry]

/-- The implied instructions that store are the pushes. -/
theorem impliedAct_stored {i act} (h : ImpliedAct i act) (u : State) : Stored (storedAddrs i u) u.mem (act u).mem := by
  cases h with
  | brk =>
    rw [trapEntry_mem]
    exact .write _ _ (.write _ _ (.write _ _ (.none _)))
  | php => exact .write _ _ (.none _)
  | pha => exact .write _ _ (.none _)
  | rti =>
    have hmem : (trapReturn u).mem = u.mem := by simp [trapReturn, pullWord]
    rw [hmem]
    exact .none _
  | rts =>
    have hmem : (pullWord u).2.mem = u.mem := by simp [pullWord]
    rw [setPC_mem, hmem]
    exact .none _
  | _ => exact .none _

theorem storedAddrs_fetch (i : Instr) (n : Nat) (s : State) : storedAddrs i (fetch n s) = storedAddrs i s := by
  simp only [storedAddrs, effAddr_fetch, fetch_sp]

/-- Every instruction changes memory by writes at the addresses it stores to. -/
theorem effect_stored {i : Instr} {s u : State} (h : Effect s i u) : Stored (storedAddrs i s) s.mem u.mem := by
  cases h with
  | @read _ act o hact =>
    have hmem : (act (operandValue o s) (operandRead o (fetch (operandLength o) s))).mem = s.mem :=
      (congrArg State.mem (hact.writesAXYFlags _ _)).trans (operandRead_mem ..)
    have hstack := not_mem_stack_of_mem_class hact.mem_classMnemonics
    rw [storedAddrs_of_not_mem_stack (.inl (instrClass_of_readAct hact)) hstack, hmem]
    exact .none _
  | store hsrc hm =>
    rw [storedAddrs_of_writes (.inl (instrClass_of_storeSource hsrc)) hm]
    exact .write _ _ (.none _)
  | @rmw _ f m hf hm =>
    have hmem : (rmwEffect f m s).mem = s.mem.write (effAddr m s) (f (busRead (effAddr m s) s) s.flags).1 := by
      simp [rmwEffect]
    rw [storedAddrs_of_writes (.inr (instrClass_of_rmw hf hm)) hm, hmem]
    exact .write _ _ (.none _)
  | acc hf hmode =>
    have hstack := not_mem_stack_of_mem_class hf.mem_classMnemonics
    rw [storedAddrs_of_not_mem_stack (.inr (instrClass_of_acc hf hmode)) hstack]
    exact .none _
  | branch hcond =>
    rw [storedAddrs_of_not_mem_stack (.inr (instrClass_of_branchCond hcond)) hcond.not_mem_stack]
    exact .none _
  | jmpAbs => exact .none _
  | jmpInd => exact .none _
  | jsr w =>
    have hmem : (jsrEffect w s).mem = (s.mem.write (stackAddr s.sp) (hi8 (s.pc + 2))).write (stackAddr (s.sp - 1))
        (lo8 (s.pc + 2)) := by simp [jsrEffect]
    rw [hmem]
    exact .write _ _ (.write _ _ (.none _))
  | implied hact =>
    rw [← storedAddrs_fetch i 1 s]
    exact impliedAct_stored hact (fetch 1 s)

/-- Settles O11: an instruction's writes are at the addresses it stores to, and a write leaves every other address
alone. -/
theorem memoryChangesOnlyWhereStored : Obligations.MemoryChangesOnlyWhereStored := by
  intro i s t hmem h a ha
  obtain ⟨u, n, heffect, rfl⟩ := exec_next h
  exact (effect_stored heffect).read_other hmem ha

/-- Every instruction keeps memory canonical. -/
theorem exec_mem_wf {i : Instr} {s t : State} (hmem : s.mem.wf = true) (h : exec i s = .next t) : t.mem.wf = true := by
  obtain ⟨u, n, heffect, rfl⟩ := exec_next h
  exact (effect_stored heffect).wf hmem

/-! ### The run state -/

theorem impliedAct_sameControl {i act} (h : ImpliedAct i act) (hbrk : i ≠ .brk) (u : State) :
    SameControl u (act u) := by
  cases h with
  | brk => contradiction
  | _ => simp [SameControl, trapReturn, pullWord]

theorem effect_sameControl {i : Instr} {s u : State} (h : Effect s i u) (hbrk : i ≠ .brk) : SameControl s u := by
  cases h with
  | read hact =>
    rw [SameControl, hact.writesAXYFlags]
    exact ⟨operandRead_runState .., operandRead_haltReason .., operandRead_events ..⟩
  | implied hact => exact impliedAct_sameControl hact hbrk (fetch 1 s)
  | _ => simp [SameControl, storeEffect, rmwEffect, accEffect, jsrEffect]

/-- Settles O13: BRK's trap entry is the one effect that enters HALTED, and no effect reports an event. -/
theorem onlyBrkHalts : Obligations.OnlyBrkHalts := by
  intro i s t h
  by_cases hbrk : i = .brk
  · subst hbrk
    obtain ⟨-, rfl⟩ := implied_next (op := 0x00) (act := trapEntry) h
    simp [trapEntry]
  · obtain ⟨u, n, heffect, rfl⟩ := exec_next h
    obtain ⟨hrun, hreason, hevents⟩ := effect_sameControl heffect hbrk
    exact ⟨hevents, fun hi => absurd hi hbrk, fun _ => ⟨hrun, hreason, hevents⟩⟩

end Sys2Proof.Proofs.Frame
end

section
/-! Which registers and flags an instruction writes (R21 to R26), shape by shape and, where the effect matters,
mnemonic by mnemonic. -/

namespace Sys2Proof.Proofs.Writers

open Sys2Proof.Machine Sys2Proof.Spec Sys2Proof.Proofs.InstrShape Sys2Proof.Proofs.ReadShape Sys2Proof.Proofs.Jsr

/-- A, X, Y and SP are as before, each unless the instruction is listed as its writer. -/
def KeepsUnwrittenRegisters (i : Instr) (s u : State) : Prop :=
  (writesA i = false → u.a = s.a) ∧ (writesX i = false → u.x = s.x) ∧ (writesY i = false → u.y = s.y) ∧
    (writesSP i = false → u.sp = s.sp)

theorem impliedAct_registers {i act} (h : ImpliedAct i act) (u : State) : KeepsUnwrittenRegisters i u (act u) := by
  unfold KeepsUnwrittenRegisters
  cases h <;> simp [writesA, writesX, writesY, writesSP, trapEntry, trapReturn, pullWord]

theorem readAct_registers {i act} (h : ReadAct i.mnemonic act) (v : Byte) (u : State) :
    KeepsUnwrittenRegisters i u (act v u) := by
  unfold KeepsUnwrittenRegisters writesA writesX writesY writesSP
  generalize i.mnemonic = mn at h ⊢
  cases h <;> simp [loadA, loadX, loadY, adcA, sbcA, andA, oraA, eorA, cmpA, cmpX, cmpY, bitA]

theorem effect_registers {i : Instr} {s u : State} (h : Effect s i u) : KeepsUnwrittenRegisters i s u := by
  cases h with
  | @read _ act o hact =>
    have hread := readAct_registers hact (operandValue o s) (operandRead o (fetch (operandLength o) s))
    simpa only [KeepsUnwrittenRegisters, operandRead_a, operandRead_x, operandRead_y, operandRead_sp, fetch_a, fetch_x,
      fetch_y, fetch_sp] using hread
  | acc hf hmode => simp [KeepsUnwrittenRegisters, accEffect, writesA, hmode]
  | implied hact => exact impliedAct_registers hact (fetch 1 s)
  | jsr w => simp [KeepsUnwrittenRegisters, writesSP, jsrEffect]
  | _ => simp [KeepsUnwrittenRegisters, storeEffect, rmwEffect]

/-- Settles O14: no effect touches a register but by a listed writer, and the charge touches none. -/
theorem registersChangeOnlyByTheirWriters : Obligations.RegistersChangeOnlyByTheirWriters := by
  intro i s t h
  obtain ⟨u, n, heffect, rfl⟩ := exec_next h
  have hkeeps := effect_registers heffect
  exact hkeeps

/-- Each flag is as before unless the mnemonic is listed as its writer. -/
def KeepsUnwrittenFlags (mn : Mnemonic) (f g : Flags) : Prop :=
  (mn ∉ writersC → g.c = f.c) ∧ (mn ∉ writersNZ → g.z = f.z) ∧ (mn ∉ writersI → g.i = f.i) ∧
    (mn ∉ writersD → g.d = f.d) ∧ (mn ∉ writersB → g.b = f.b) ∧ (mn ∉ writersV → g.v = f.v) ∧
    (mn ∉ writersNZ → g.n = f.n)

theorem impliedAct_flags {i act} (h : ImpliedAct i act) (u : State) :
    KeepsUnwrittenFlags i.mnemonic u.flags (act u).flags := by
  unfold KeepsUnwrittenFlags
  cases h <;> simp [writersC, writersNZ, nzUsers, writersI, writersD, writersB, writersV, pullWord, trapEntry]

theorem readAct_flags {mn act} (h : ReadAct mn act) (v : Byte) (u : State) :
    KeepsUnwrittenFlags mn u.flags (act v u).flags := by
  unfold KeepsUnwrittenFlags
  cases h <;> simp [writersC, writersNZ, nzUsers, writersI, writersD, writersB, writersV, loadA, loadX, loadY, adcA,
    sbcA, andA, oraA, eorA, cmpA, cmpX, cmpY, bitA]

theorem byteFun_flags {mn f} (h : ByteFun mn f) (v : Byte) (g : Flags) : KeepsUnwrittenFlags mn g (f v g).2 := by
  unfold KeepsUnwrittenFlags
  cases h <;> simp [writersC, writersNZ, nzUsers, writersI, writersD, writersB, writersV, asl, lsr, rol, ror, incByte,
    decByte]

theorem effect_flags {i : Instr} {s u : State} (h : Effect s i u) : KeepsUnwrittenFlags i.mnemonic s.flags u.flags := by
  cases h with
  | @read _ act o hact =>
    have hread := readAct_flags hact (operandValue o s) (operandRead o (fetch (operandLength o) s))
    rwa [operandRead_flags, fetch_flags] at hread
  | @rmw _ f m hf =>
    have hflags : (rmwEffect f m s).flags = (f (busRead (effAddr m s) s) s.flags).2 := by simp [rmwEffect]
    rw [hflags]
    exact byteFun_flags hf _ _
  | acc hf => exact byteFun_flags hf _ _
  | implied hact => exact impliedAct_flags hact (fetch 1 s)
  | _ => simp [KeepsUnwrittenFlags, storeEffect, jsrEffect]

/-- Settles O15: no effect touches a flag but by a listed writer, and the charge touches none. -/
theorem flagsChangeOnlyByTheirWriters : Obligations.FlagsChangeOnlyByTheirWriters := by
  intro i s t h
  obtain ⟨u, n, heffect, rfl⟩ := exec_next h
  have hkeeps := effect_flags heffect
  exact hkeeps

end Sys2Proof.Proofs.Writers
end

section
/-! The charge of every instruction (R138, R148): when it is made, what it amounts to, and `page_crossed`, which it
reads. -/

namespace Sys2Proof.Proofs.Charge

open Sys2Proof.Machine Sys2Proof.Spec Sys2Proof.Proofs.InstrShape Sys2Proof.Proofs.ReadShape Sys2Proof.Proofs.Addressing
  Sys2Proof.Proofs.Encoding

/-- Settles O9: every instruction is one charge of its debit on the old balance, which fits or is refused. -/
theorem completesExactlyWhenDebitFits : Obligations.CompletesExactlyWhenDebitFits := by
  intro i s
  obtain ⟨u, hexec, hbalance, hcrossed⟩ := exec_is_charge i s
  rw [hexec, debit, ← hbalance, ← hcrossed]
  split
  case isTrue hok => exact ⟨_, charge_of_ok hok, rfl⟩
  case isFalse hok => exact charge_of_not_ok (Bool.eq_false_iff.mpr hok)

/-- Settles O12: the state the charge is made on says whether the instruction crossed a page, and the charge leaves
that alone. -/
theorem pageCrossedFollowsTheInstruction : Obligations.PageCrossedFollowsTheInstruction := by
  intro i s t h
  obtain ⟨u, hexec, -, hcrossed⟩ := exec_is_charge i s
  obtain ⟨-, rfl⟩ := charge_next (hexec.symm.trans h)
  refine ⟨hcrossed, fun htrue => ?_⟩
  have hcross : crossesPage i s = true := hcrossed.symm.trans htrue
  unfold crossesPage at hcross
  split at hcross
  · next m hm => exact mode_of_memOperand? hm ▸ mode_of_pageCross hcross
  · cases hcross

/-- An opcode the decoder knows has at least 2 base cycles (R144). -/
theorem two_le_baseCycles (i : Instr) : 2 ≤ baseCycles (opcode i) := by
  have htable : ∀ op, 2 ≤ baseCycles op ∨ op ∈ unknownOpcodes := by decide
  have hknown : opcode i ∉ unknownOpcodes := mt (decodeOp_eq_none_iff _ 0 0).mpr (decodeOp_opcode_ne_none i 0 0)
  exact (htable (opcode i)).resolve_right hknown

/-- A plus opcode is a *read* instruction's (R145). -/
theorem instrClass_of_pagePenalty {i : Instr} (h : pagePenalty (opcode i) = true) : instrClass i = .read := by
  cases shape i with
  | read hact => exact instrClass_of_readAct hact
  | store _ _ _ hplus => exact absurd h (by simp [hplus])
  | rmw _ _ _ hplus => exact absurd h (by simp [hplus])
  | acc _ _ _ hplus => exact absurd h (by simp [hplus])
  | branch _ _ _ hplus => exact absurd h (by simp [hplus])
  | implied hact => cases hact <;> cases h
  | _ => cases h

theorem mode_ne_rel_of_memOperand? {i : Instr} {m : MemOperand} (hm : memOperand? i = some m) : i.mode ≠ .rel :=
  mode_of_memOperand? hm ▸ (modeOf_ne m).2.2

theorem mode_ne_rel_of_isOperand {i : Instr} : ∀ {o}, IsOperand i o → i.mode ≠ .rel
  | .imm _, hmode => fun hrel => nomatch hmode.symm.trans hrel
  | .mem _, hm => mode_ne_rel_of_memOperand? hm

theorem branchExtra_of_mem_class {i : Instr} (h : i.mnemonic ∈ classMnemonics) (s : State) : branchExtra i s = 0 := by
  simp [branchExtra, branchCond?_of_mem_class h]

/-- Mode REL is that of the branches (R240), which alone have a branch's extra. -/
theorem branchCond_or_branchExtra_eq_zero (i : Instr) :
    (i.mode = .rel ∧ pagePenalty (opcode i) = false ∧ baseCycles (opcode i) = 2 ∧
        ∃ cond, BranchCond i.mnemonic cond) ∨
      (i.mode ≠ .rel ∧ ∀ s, branchExtra i s = 0) := by
  cases shape i with
  | branch hcond _ hmode hplus hcycles => exact .inl ⟨hmode, hplus, hcycles, _, hcond⟩
  | read hact _ ho => exact .inr ⟨mode_ne_rel_of_isOperand ho, branchExtra_of_mem_class hact.mem_classMnemonics⟩
  | store hsrc _ hm => exact .inr ⟨mode_ne_rel_of_memOperand? hm, branchExtra_of_mem_class hsrc.mem_classMnemonics⟩
  | rmw hf _ hm => exact .inr ⟨mode_ne_rel_of_memOperand? hm, branchExtra_of_mem_class hf.mem_classMnemonics⟩
  | acc hf _ hmode =>
    exact .inr ⟨by simp [hmode], branchExtra_of_mem_class hf.mem_classMnemonics⟩
  | implied hact => cases hact <;> exact .inr ⟨nofun, fun _ => rfl⟩
  | _ => exact .inr ⟨nofun, fun _ => rfl⟩

/-- A branch's extra is 1 or 2 when taken, by whether the target is on the page of the next instruction (R240). -/
theorem branchExtra_of_branchCond {i : Instr} {cond : Flags → Bool} (h : BranchCond i.mnemonic cond) (s : State) :
    2 + branchExtra i s =
      branchCycles (cond s.flags) (nextAddr i s) (branchTarget (nextAddr i s) ((operandBytes i).getD 0 0)) := by
  simp only [branchExtra, branchCycles, h.branchCond?_eq, crossed_iff]
  cases cond s.flags with
  | false => rfl
  | true =>
    simp only [ite_not]
    split_ifs <;> rfl

theorem branchCycles_bounds (taken : Bool) (next target : Addr) :
    2 ≤ branchCycles taken next target ∧ branchCycles taken next target ≤ 4 := by
  unfold branchCycles
  split_ifs <;> decide

/-- Settles O10: a branch is its base of 2 and its extra, any other instruction its base and the cycle of a penalised
crossing, which a base near 7 cannot have. -/
theorem debitLaw : Obligations.DebitLaw := by
  intro i s
  obtain ⟨hmode, hplus, hcycles, cond, hcond⟩ | ⟨hmode, hextra⟩ := branchCond_or_branchExtra_eq_zero i
  · have hdebit : debit i s = branchCycles (cond s.flags) (nextAddr i s)
        (branchTarget (nextAddr i s) ((operandBytes i).getD 0 0)) := by
      rw [← branchExtra_of_branchCond hcond, ← hcycles, debit, chargeOf, hplus]
      rfl
    obtain ⟨hmin, hmax⟩ := hdebit ▸ branchCycles_bounds _ _ _
    exact ⟨hmin, hmax.trans (by decide), fun _ => ⟨_, hcond.branchCond?_eq _, hdebit⟩, fun hne => absurd hmode hne,
      instrClass_of_pagePenalty⟩
  · have hdebit : debit i s = chargeOf (opcode i) (crossesPage i s) 0 := by rw [debit, hextra]
    refine ⟨?min, hdebit ▸ chargeOf_le _ _, fun hrel => absurd hrel hmode,
      fun _ => hdebit.trans (chargeOf_eq_base_add_crossCycle _ _), instrClass_of_pagePenalty⟩
    case min =>
      rw [hdebit, chargeOf_eq_base_add_crossCycle]
      exact (two_le_baseCycles i).trans (Nat.le_add_right _ _)

end Sys2Proof.Proofs.Charge
end

section
/-! The bus accesses of an instruction (R53): its bytes, what its operand reads and writes, and the target or stack
bytes. -/

namespace Sys2Proof.Proofs.Bus

open Sys2Proof.Machine Sys2Proof.Spec Sys2Proof.Proofs.InstrShape Sys2Proof.Proofs.ReadShape Sys2Proof.Proofs.Jsr

/-! ### The parts of the access sequence -/

/-- The reads of an instruction's own bytes. -/
def fetchReads (n : Nat) (s : State) : List (Bool × Addr) :=
  (List.range n).map fun k => (false, s.pc + BitVec.ofNat 16 k)

theorem fetchAddrs_eq (a : Addr) (n : Nat) : fetchAddrs a n = (List.range n).map fun k => a + BitVec.ofNat 16 k := by
  induction n generalizing a with
  | zero => rfl
  | succ n ih =>
    have hnext : ∀ k, a + 1#16 + BitVec.ofNat 16 k = a + BitVec.ofNat 16 (k + 1) := fun k => by bv_omega
    simp [fetchAddrs, ih, List.range_succ_eq_map, hnext]

theorem map_accessKind_read (as : List Addr) : (as.map BusAccess.read).map accessKind = as.map fun a => (false, a) := by
  simp [accessKind]

theorem fetch_bus_kinds (n : Nat) (s : State) : (fetch n s).bus.map accessKind = fetchReads n s := by
  rw [fetch_bus, map_accessKind_read, fetchAddrs_eq, List.map_map]
  rfl

theorem otherAccesses_of_not_mem_stack {i : Instr} (hmode : i.mode ≠ .ind) (hstack : i.mnemonic ∉ stackMnemonics)
    (s : State) : otherAccesses i s = [] := by
  unfold otherAccesses
  rw [if_neg hmode]
  revert hstack
  cases i.mnemonic <;> simp [stackMnemonics]

theorem accessSequence_of_operand {i : Instr} {m : MemOperand} (hm : memOperand? i = some m)
    (hstack : i.mnemonic ∉ stackMnemonics) (s : State) :
    accessSequence i s = fetchReads (memLength m) s ++ (pointerReads m s).map (fun a => (false, a)) ++
      classAccesses (instrClass i) (effAddr m s) := by
  have hmode : i.mode ≠ .ind := mode_of_memOperand? hm ▸ (modeOf_ne m).2.1
  simp only [accessSequence, hm, otherAccesses_of_not_mem_stack hmode hstack, length_of_memOperand? hm, List.append_nil,
    ← List.append_assoc]
  rfl

theorem accessSequence_of_no_operand {i : Instr} (hm : memOperand? i = none) (s : State) :
    accessSequence i s = fetchReads i.length s ++ otherAccesses i s := by
  simp only [accessSequence, hm, List.append_nil]
  rfl

theorem memOperand?_of_mode {i : Instr} (hmode : i.mode = .imm ∨ i.mode = .acc ∨ i.mode = .rel) :
    memOperand? i = none := by
  rw [Option.eq_none_iff_forall_ne_some]
  intro m hm
  have hi := mode_of_memOperand? hm
  cases m <;> simp [hi, modeOf] at hmode

theorem accessSequence_of_mode {i : Instr} (hmode : i.mode = .imm ∨ i.mode = .acc ∨ i.mode = .rel)
    (hstack : i.mnemonic ∉ stackMnemonics) (s : State) : accessSequence i s = fetchReads i.length s := by
  have hind : i.mode ≠ .ind := by
    obtain h | h | h := hmode <;> simp [h]
  rw [accessSequence_of_no_operand (memOperand?_of_mode hmode), otherAccesses_of_not_mem_stack hind hstack,
    List.append_nil]

theorem length_of_mode {i : Instr} {mode : AddrMode} (h : i.mode = mode) : i.length = mode.length :=
  h ▸ rfl

/-! ### The accesses of each shape -/

theorem impliedAct_bus {i act} (h : ImpliedAct i act) (s : State) :
    (act (fetch 1 s)).bus.map accessKind = fetchReads 1 s ++ otherAccesses i s := by
  rw [← fetch_bus_kinds]
  cases h <;> simp [otherAccesses, accessKind, trapEntry, trapReturn, pullWord, BitVec.add_assoc, BitVec.sub_sub]

theorem impliedAct_row {i act} (h : ImpliedAct i act) : i.mode = .imp ∧ memOperand? i = none := by
  cases h <;> exact ⟨rfl, rfl⟩

theorem jmpInd_bus (ptr target : Addr) (s : State) :
    (setPC target (logReads [ptr, ptr + 1] (fetch 3 s))).bus.map accessKind =
      fetchReads 3 s ++ otherAccesses (.jmpInd ptr) s := by
  rw [← fetch_bus_kinds]
  simp [otherAccesses, accessKind, word16_hi8_lo8]

theorem jsrEffect_bus (w : Addr) (s : State) :
    (jsrEffect w s).bus.map accessKind = fetchReads 3 s ++ otherAccesses (.jsr w) s := by
  rw [← fetch_bus_kinds]
  simp [otherAccesses, accessKind, jsrEffect]

theorem effect_bus {i : Instr} {s u : State} (h : Effect s i u) : u.bus.map accessKind = accessSequence i s := by
  cases h with
  | @read _ act o hact ho =>
    have hstack := not_mem_stack_of_mem_class hact.mem_classMnemonics
    have hbus : (act (operandValue o s) (operandRead o (fetch (operandLength o) s))).bus =
        (operandRead o (fetch (operandLength o) s)).bus := by rw [hact.writesAXYFlags]
    rw [hbus]
    cases o with
    | imm v =>
      have hmode : i.mode = .imm := ho
      rw [accessSequence_of_mode (.inl hmode) hstack, length_of_mode hmode]
      exact fetch_bus_kinds 2 s
    | mem m =>
      have hm : memOperand? i = some m := ho
      rw [accessSequence_of_operand hm hstack, instrClass_of_readAct hact, ← fetch_bus_kinds]
      simp [operandRead, operandLength, classAccesses, accessKind]
  | store hsrc hm =>
    have hstack := not_mem_stack_of_mem_class hsrc.mem_classMnemonics
    rw [accessSequence_of_operand hm hstack, instrClass_of_storeSource hsrc, ← fetch_bus_kinds]
    simp [storeEffect, classAccesses, accessKind]
  | rmw hf hm =>
    have hstack := not_mem_stack_of_mem_class hf.mem_classMnemonics
    rw [accessSequence_of_operand hm hstack, instrClass_of_rmw hf hm, ← fetch_bus_kinds]
    simp [rmwEffect, classAccesses, accessKind]
  | acc hf hmode =>
    have hstack := not_mem_stack_of_mem_class hf.mem_classMnemonics
    rw [accessSequence_of_mode (.inr (.inl hmode)) hstack, length_of_mode hmode]
    exact fetch_bus_kinds 1 s
  | branch hcond hmode =>
    rw [accessSequence_of_mode (.inr (.inr hmode)) hcond.not_mem_stack, length_of_mode hmode]
    exact fetch_bus_kinds 2 s
  | implied hact =>
    obtain ⟨hmode, hm⟩ := impliedAct_row hact
    rw [impliedAct_bus hact, accessSequence_of_no_operand hm, length_of_mode hmode]
    rfl
  | jmpAbs w =>
    rw [accessSequence_of_no_operand rfl]
    exact (fetch_bus_kinds 3 s).trans (List.append_nil _).symm
  | jmpInd ptr =>
    rw [accessSequence_of_no_operand rfl]
    exact jmpInd_bus ptr _ s
  | jsr w =>
    rw [accessSequence_of_no_operand rfl]
    exact jsrEffect_bus w s

/-- Settles O17: each shape makes the accesses R53 gives its class, and the charge makes none. -/
theorem busAccessSequence : Obligations.BusAccessSequence := by
  intro i s t h
  obtain ⟨u, n, heffect, rfl⟩ := exec_next h
  have hbus := effect_bus heffect
  exact hbus

end Sys2Proof.Proofs.Bus
end

section
/-! D, I and B decide nothing (R29, R30, R31): two states that differ in them alone go to states that differ in them
alone, or are both refused. PHP and BRK, which push the flag byte, are the exceptions. -/

namespace Sys2Proof.Proofs.NoEffect

open Sys2Proof.Machine Sys2Proof.Spec Sys2Proof.Proofs.InstrShape Sys2Proof.Proofs.Jsr

/-- The states differ in D, I and B at most. -/
def SameButDIB (u v : State) : Prop := withDIB false false false u = withDIB false false false v

/-- A charge looks at the balance and `page_crossed` alone. -/
theorem forgetDIB_charge {u v : State} (h : SameButDIB u v) (op : Byte) (extra : Nat) :
    forgetDIB (charge op extra u) = forgetDIB (charge op extra v) := by
  have heq : withDIB false false false u = withDIB false false false v := h
  have hbalance : u.cyclesAvailable = v.cyclesAvailable := (congrArg State.cyclesAvailable heq :)
  have hcrossed : u.pageCrossed = v.pageCrossed := (congrArg State.pageCrossed heq :)
  simp only [charge, hbalance, hcrossed]
  split
  · exact congrArg (fun w => Host.Outcome.next (setCycles _ w)) heq
  · rfl

section
variable (d j b : Bool) (s : State)

theorem effAddr_withDIB (m : MemOperand) : effAddr m (withDIB d j b s) = effAddr m s := by
  cases m <;> rfl

theorem operandValue_withDIB (o : Operand) : operandValue o (withDIB d j b s) = operandValue o s := by
  cases o with
  | imm v => rfl
  | mem m => exact congrArg (busRead · s) (effAddr_withDIB d j b s m)

theorem resolve_withDIB (m : MemOperand) : resolve m (withDIB d j b s) = withDIB d j b (resolve m s) := by
  cases m <;> rfl

theorem operandRead_withDIB (o : Operand) : operandRead o (withDIB d j b s) = withDIB d j b (operandRead o s) := by
  cases o with
  | imm v => rfl
  | mem m => rw [operandRead, effAddr_withDIB, resolve_withDIB]; rfl

theorem fetch_withDIB (n : Nat) : fetch n (withDIB d j b s) = withDIB d j b (fetch n s) := rfl

theorem readAct_withDIB {mn act} (h : ReadAct mn act) (v : Byte) : SameButDIB (act v (withDIB d j b s)) (act v s) := by
  cases h <;> rfl

theorem storeSource_withDIB {mn src} (h : StoreSource mn src) : src (withDIB d j b s) = src s := by
  cases h <;> rfl

/-- No computation of the *RMW* class looks at D, I or B. -/
theorem byteFun_withDIB {mn f} (h : ByteFun mn f) (v : Byte) :
    (f v (withDIB d j b s).flags).1 = (f v s.flags).1 ∧
      SameButDIB (setFlags (f v (withDIB d j b s).flags).2 (withDIB d j b s)) (setFlags (f v s.flags).2 s) := by
  cases h <;> exact ⟨rfl, rfl⟩

theorem branchCond_withDIB {mn cond} (h : BranchCond mn cond) : cond (withDIB d j b s).flags = cond s.flags := by
  cases h <;> rfl

theorem impliedAct_withDIB {i act} (h : ImpliedAct i act) (hphp : i ≠ .php) (hbrk : i ≠ .brk) :
    SameButDIB (act (withDIB d j b s)) (act s) := by
  cases h with
  | php => contradiction
  | brk => contradiction
  | _ => rfl

theorem push_withDIB (v : Byte) : push v (withDIB d j b s) = withDIB d j b (push v s) := rfl

theorem jsrEffect_withDIB (w : Addr) : SameButDIB (jsrEffect w (withDIB d j b s)) (jsrEffect w s) := by
  simp only [jsrEffect, pushWord, fetch_withDIB, push_withDIB]
  rfl

/-! ### The shapes -/

theorem forgetDIB_readInstr {mn act} (h : ReadAct mn act) (op : Byte) (o : Operand) :
    forgetDIB (readInstr op act o (withDIB d j b s)) = forgetDIB (readInstr op act o s) := by
  simp only [readInstr, fetch_withDIB, operandValue_withDIB, operandRead_withDIB]
  exact forgetDIB_charge (readAct_withDIB d j b _ h _) op 0

theorem forgetDIB_storeInstr {mn src} (h : StoreSource mn src) (op : Byte) (m : MemOperand) :
    forgetDIB (storeInstr op src m (withDIB d j b s)) = forgetDIB (storeInstr op src m s) := by
  simp only [storeInstr, fetch_withDIB, effAddr_withDIB, resolve_withDIB, storeSource_withDIB d j b _ h]
  exact forgetDIB_charge (by rfl) op 0

theorem forgetDIB_rmwInstr {mn f} (h : ByteFun mn f) (op : Byte) (m : MemOperand) :
    forgetDIB (rmwInstr op f m (withDIB d j b s)) = forgetDIB (rmwInstr op f m s) := by
  let u := logReads [effAddr m s] (resolve m (fetch (memLength m) s))
  obtain ⟨hbyte, hflags⟩ := byteFun_withDIB d j b u h (busRead (effAddr m s) s)
  simp only [rmwInstr, fetch_withDIB, effAddr_withDIB, resolve_withDIB, effAddr_fetch]
  refine forgetDIB_charge ?_ op 0
  exact congrArg₂ (fun v w => busWrite (effAddr m s) v w) hbyte hflags

theorem forgetDIB_accInstr {mn f} (h : ByteFun mn f) (op : Byte) :
    forgetDIB (accInstr op f (withDIB d j b s)) = forgetDIB (accInstr op f s) := by
  obtain ⟨hbyte, hflags⟩ := byteFun_withDIB d j b (fetch 1 s) h s.a
  refine forgetDIB_charge ?_ op 0
  exact congrArg₂ (fun v w => setA v w) hbyte hflags

theorem forgetDIB_branch {mn cond} (h : BranchCond mn cond) (op disp : Byte) :
    forgetDIB (branch op cond disp (withDIB d j b s)) = forgetDIB (branch op cond disp s) := by
  simp only [branch, fetch_withDIB, branchCond_withDIB d j b _ h]
  split
  · exact forgetDIB_charge (by rfl) op _
  · exact forgetDIB_charge (by rfl) op 0

end

/-- Settles O16: each shape's charge is made on states that differ in D, I and B at most. -/
theorem decimalInterruptBreakHaveNoEffect : Obligations.DecimalInterruptBreakHaveNoEffect := by
  intro i s d j b hphp hbrk
  cases shape i with
  | read hact hexec => rw [hexec, hexec, forgetDIB_readInstr d j b s hact]
  | store hsrc hexec => rw [hexec, hexec, forgetDIB_storeInstr d j b s hsrc]
  | rmw hf hexec => rw [hexec, hexec, forgetDIB_rmwInstr d j b s hf]
  | acc hf hexec => rw [hexec, hexec, forgetDIB_accInstr d j b s hf]
  | branch hcond hexec => rw [hexec, hexec, forgetDIB_branch d j b s hcond]
  | implied hact hexec =>
    rw [hexec, hexec]
    exact forgetDIB_charge (impliedAct_withDIB d j b (fetch 1 s) hact hphp hbrk) _ 0
  | jmpAbs w => exact forgetDIB_charge (by rfl) 0x4C 0
  | jmpInd ptr => exact forgetDIB_charge (by rfl) 0x6C 0
  | jsr w =>
    have hexec : ∀ s, exec (.jsr w) s = charge 0x20 0 (jsrEffect w s) := fun _ => rfl
    rw [hexec, hexec]
    exact forgetDIB_charge (jsrEffect_withDIB d j b s w) 0x20 0

end Sys2Proof.Proofs.NoEffect
end

section
/-! One step of the CORE (R146): what it does when it waits, on an unknown opcode and on an instruction; creation
(R330, R37), the set-up port (R331, R332) and the invariant every step keeps. -/

namespace Sys2Proof.Proofs.Step

open Sys2Proof.Machine Sys2Proof.Spec Sys2Proof.Proofs.Encoding Sys2Proof.Proofs.Frame

/-! ### The cases of a step -/

theorem step_of_stopped {s : State} (h : canDispatch s = false) : step s = .next s := by
  simp [step, h]

theorem step_of_fetchInstr {s : State} {i : Instr} (hd : canDispatch s = true) (hf : fetchInstr s = some i) :
    step s = exec i s := by
  simp [step, dispatchStep, hd, hf]

theorem step_of_unknown {s : State} (hd : canDispatch s = true) (hf : fetchInstr s = none) :
    step s = .next (haltUnknown (fetchOpcode s) s) := by
  simp [step, dispatchStep, hd, hf]

/-- The opcode at PC alone decides whether there is an instruction (R76). -/
theorem fetchInstr_eq_none_iff (s : State) : fetchInstr s = none ↔ fetchOpcode s ∈ unknownOpcodes :=
  decodeOp_eq_none_iff _ _ _

/-- Settles O6: dispatching reads the same three bytes that the decoder is asked about. -/
theorem stepRunsDecodedInstruction : Obligations.StepRunsDecodedInstruction := fun s _ hrun hbalance hdecode =>
  step_of_fetchInstr ((canDispatch_iff s).mpr ⟨hrun, hbalance⟩) hdecode

/-- Settles O7: neither a HALTED CORE nor one without cycles can dispatch. -/
theorem haltedOrSpentCoreDoesNothing : Obligations.HaltedOrSpentCoreDoesNothing := by
  intro s h
  refine step_of_stopped (Bool.eq_false_iff.mpr fun hd => ?_)
  obtain ⟨hrun, hbalance⟩ := (canDispatch_iff s).mp hd
  obtain hhalted | hspent := h
  · cases hrun.symm.trans hhalted
  · omega

/-- Settles O8: the step is the halt on an unknown opcode, which fetches one byte and reports it. -/
theorem unknownOpcodeHalts : Obligations.UnknownOpcodeHalts := by
  intro s hrun hbalance hop
  have hstep := step_of_unknown ((canDispatch_iff s).mpr ⟨hrun, hbalance⟩) ((fetchInstr_eq_none_iff s).mpr hop)
  exact ⟨_, hstep, rfl, rfl, rfl, rfl, rfl, rfl, ⟨rfl, rfl, rfl⟩, rfl, rfl, rfl⟩

/-! ### Creation and the set-up port -/

/-- Settles O19: a created CORE is RUNNING on a balance of 0 with no reason and no event. -/
theorem creationEstablishesInvariant : Obligations.CreationEstablishesInvariant := by
  have hcreate : ∀ (pc : Addr) (sp a x y : Byte) (mem : Memory), mem.wf = true → Inv (State.create pc sp a x y mem) :=
    fun _ _ _ _ _ _ hmem => ⟨hmem, rfl, rfl, rfl, nofun⟩
  exact ⟨hcreate, hcreate _ _ _ _ _ _ reset_mem_wf⟩

/-- Settles O20: creation is a record of the values listed, and an empty memory reads 0. -/
theorem creationValues : Obligations.CreationValues :=
  ⟨fun _ _ _ _ _ _ => ⟨rfl, rfl, rfl, rfl, rfl, rfl, rfl, rfl, rfl, rfl, rfl, rfl, rfl, rfl, rfl, rfl, rfl, rfl, rfl⟩,
    rfl, fun _ => rfl⟩

/-- Settles O24: each port operation is one register write, and the low byte is the argument mod 256. -/
theorem setUpPortWritesOneRegister : Obligations.SetUpPortWritesOneRegister := by
  refine ⟨fun _ _ => rfl, fun w s => ?_, rfl, rfl⟩
  have hlow : lo8 w = BitVec.ofNat 8 (w.toNat % 256) := by
    apply BitVec.eq_of_toNat_eq
    simp [lo8_toNat]
  exact congrArg (setSP · s) hlow

/-! ### The invariant -/

/-- While RUNNING, a state that meets the invariant has no halt reason and no event. -/
theorem haltReason_events_of_inv {s : State} (h : Inv s) (hrun : s.runState = .running) :
    s.haltReason = .none ∧ s.events = [] := by
  obtain ⟨-, -, hconsistent, hevents, -⟩ := h
  have hreason : s.haltReason = .none := by
    have hnot : (s.runState == .halted) = false := by rw [hrun]; rfl
    simpa [haltConsistent, hnot] using hconsistent
  exact ⟨hreason, by rw [hevents, hreason]; rfl⟩

theorem balanceOk_of_exec_next {i : Instr} {s t : State} (h : exec i s = .next t) :
    balanceOk t.cyclesAvailable = true := by
  obtain ⟨u, hexec, -⟩ := exec_is_charge i s
  obtain ⟨hok, rfl⟩ := charge_next (hexec.symm.trans h)
  exact hok

/-- An instruction keeps the invariant: BRK is the one that leaves RUNNING, with its reason and no event. -/
theorem inv_exec {i : Instr} {s t : State} (hinv : Inv s) (hrun : s.runState = .running) (h : exec i s = .next t) :
    Inv t := by
  obtain ⟨hreason, hnoEvents⟩ := haltReason_events_of_inv hinv hrun
  obtain ⟨hmem, -⟩ := hinv
  obtain ⟨hevents, hbrk, hother⟩ := onlyBrkHalts i s t h
  refine ⟨exec_mem_wf hmem h, balanceOk_of_exec_next h, ?_⟩
  by_cases hi : i = .brk
  · obtain ⟨htrun, htreason⟩ := hbrk hi
    simp [haltConsistent, eventsOf, htrun, htreason, hevents, hnoEvents]
  · obtain ⟨htrun, htreason, -⟩ := hother hi
    simp [haltConsistent, eventsOf, htrun, htreason, hevents, hnoEvents, hrun, hreason]

/-- The halt on an unknown opcode keeps the invariant: it reports the byte that its reason names. -/
theorem inv_haltUnknown {s : State} (hinv : Inv s) (hrun : s.runState = .running)
    (hop : fetchOpcode s ∈ unknownOpcodes) : Inv (haltUnknown (fetchOpcode s) s) := by
  obtain ⟨-, hnoEvents⟩ := haltReason_events_of_inv hinv hrun
  obtain ⟨hmem, hbalance, -⟩ := hinv
  refine ⟨hmem, hbalance, rfl, congrArg (· ++ [fetchOpcode s]) hnoEvents, fun op hreason => ?_⟩
  cases hreason
  exact decodeOp_of_mem_unknownOpcodes hop 0 0

/-- Settles O18: a step waits, halts on an unknown opcode or runs an instruction, and each keeps the invariant. -/
theorem stepKeepsInvariant : Obligations.StepKeepsInvariant := by
  intro s t hinv h
  obtain ⟨-, rfl⟩ | ⟨hd, hf, rfl⟩ | ⟨hd, i, -, hexec⟩ := step_next h
  · exact hinv
  · exact inv_haltUnknown hinv ((canDispatch_iff s).mp hd).1 ((fetchInstr_eq_none_iff s).mp hf)
  · exact inv_exec hinv ((canDispatch_iff s).mp hd).1 hexec

end Sys2Proof.Proofs.Step
end

section
/-! The loop of `run` (R130): every turn halts or spends cycles, so the balance is fuel enough (log entry 16), and a
run is one step and the run of the rest. -/

namespace Sys2Proof.Proofs.Run

open Sys2Proof.Machine Sys2Proof.Spec Sys2Proof.Proofs.Encoding Sys2Proof.Proofs.Charge Sys2Proof.Proofs.Step

theorem runState_ne_halted {s : State} (h : s.runState ≠ .halted) : s.runState = .running := by
  cases hrun : s.runState with
  | running => rfl
  | halted => contradiction

theorem canDispatch_of_halted {s : State} (h : s.runState = .halted) : canDispatch s = false := by
  simp [canDispatch, h]

theorem runCode_of_halted {s : State} (h : s.runState = .halted) : runCode s = .brk := if_pos h

theorem runCode_of_running {s : State} (h : s.runState = .running) : runCode s = .cont := by
  simp [runCode, h]

/-- A step that dispatches answers a state with a balance in range, HALTED or on fewer cycles (R310). -/
theorem step_of_dispatch {s : State} (hd : canDispatch s = true) (hok : balanceOk s.cyclesAvailable = true) :
    ∃ t, step s = .next t ∧ balanceOk t.cyclesAvailable = true ∧
      (t.runState = .halted ∨ t.cyclesAvailable < s.cyclesAvailable) := by
  cases hf : fetchInstr s with
  | none => exact ⟨_, step_of_unknown hd hf, hok, .inl rfl⟩
  | some i =>
    obtain ⟨-, hpositive⟩ := (canDispatch_iff s).mp hd
    obtain ⟨hmin, hmax, -⟩ := debitLaw i s
    have hfits : balanceOk (s.cyclesAvailable - debit i s) = true := by
      rw [balanceOk_iff] at hok ⊢
      simp only [Config.cycleMin, Config.cycleMax] at hok ⊢
      omega
    have hcompletes := completesExactlyWhenDebitFits i s
    rw [if_pos hfits] at hcompletes
    obtain ⟨t, hexec, hbalance⟩ := hcompletes
    exact ⟨t, (step_of_fetchInstr hd hf).trans hexec, hbalance ▸ hfits, .inr (by omega)⟩

/-- A fuel of the balance or more is never used up: any two such fuels give one result. -/
theorem runLoop_eq_of_fuel {f g : Nat} {s : State} (hok : balanceOk s.cyclesAvailable = true)
    (hf : s.cyclesAvailable ≤ f) (hg : s.cyclesAvailable ≤ g) : runLoop f s = runLoop g s := by
  induction f generalizing g s with
  | zero =>
    have hstopped : canDispatch s = false := Bool.eq_false_iff.mpr fun hd => by
      have hpositive := ((canDispatch_iff s).mp hd).2
      omega
    rw [runLoop_of_stopped hstopped, runLoop_of_stopped hstopped]
  | succ f ih =>
    cases hd : canDispatch s with
    | false => rw [runLoop_of_stopped hd, runLoop_of_stopped hd]
    | true =>
      have hpositive := ((canDispatch_iff s).mp hd).2
      obtain ⟨t, hstep, htok, hprogress⟩ := step_of_dispatch hd hok
      obtain ⟨g, rfl⟩ : ∃ g', g = g' + 1 := Nat.exists_eq_succ_of_ne_zero (by omega)
      rw [runLoop_succ_of_step hd hstep, runLoop_succ_of_step hd hstep]
      obtain hhalted | hless := hprogress
      · have hstopped := canDispatch_of_halted hhalted
        rw [runLoop_of_stopped hstopped, runLoop_of_stopped hstopped]
      · exact ih htok (by omega) (by omega)

/-- With such a fuel the loop ends where the CORE cannot dispatch. -/
theorem runLoop_returns {fuel : Nat} {s : State} (hok : balanceOk s.cyclesAvailable = true)
    (hfuel : s.cyclesAvailable ≤ fuel) : ∃ t, runLoop fuel s = .next (runCode t, t) ∧ canDispatch t = false := by
  induction fuel generalizing s with
  | zero =>
    refine ⟨s, rfl, Bool.eq_false_iff.mpr fun hd => ?_⟩
    have hpositive := ((canDispatch_iff s).mp hd).2
    omega
  | succ fuel ih =>
    cases hd : canDispatch s with
    | false => exact ⟨s, runLoop_of_stopped hd _, hd⟩
    | true =>
      obtain ⟨t, hstep, htok, hprogress⟩ := step_of_dispatch hd hok
      rw [runLoop_succ_of_step hd hstep]
      obtain hhalted | hless := hprogress
      · have hstopped := canDispatch_of_halted hhalted
        exact ⟨t, runLoop_of_stopped hstopped _, hstopped⟩
      · exact ih htok (by omega)

/-- Settles O21: the loop ends where the CORE is HALTED, with BREAK, or RUNNING on a spent balance, with CONTINUE. -/
theorem runReturns : Obligations.RunReturns := by
  intro n s hrun hok
  obtain ⟨t, hloop, hstopped⟩ := runLoop_returns (s := setCycles (s.cyclesAvailable + n) s) hok (Int.self_le_toNat _)
  refine ⟨runCode t, t, (run_of_ok hrun hok).trans hloop, ?_⟩
  by_cases hhalted : t.runState = .halted
  · exact .inl ⟨runCode_of_halted hhalted, hhalted⟩
  · have htrun := runState_ne_halted hhalted
    have hspent : ¬0 < t.cyclesAvailable := fun hpositive =>
      Bool.eq_false_iff.mp hstopped ((canDispatch_iff t).mpr ⟨htrun, hpositive⟩)
    exact .inr ⟨runCode_of_running htrun, htrun, Int.not_lt.mp hspent⟩

/-- Settles O22: a HALTED CORE is not even paid a deposit, a deposit out of range is refused, and on a spent balance
the loop has no turn. -/
theorem runAtItsEdges : Obligations.RunAtItsEdges := by
  refine fun n s => ⟨fun hhalted => if_pos hhalted, fun hrun hrange => ?_, fun hrun hok hspent => ?_⟩
  · simp [run, deposit, hrun, hrange]
  · have hstopped : canDispatch (setCycles (s.cyclesAvailable + n) s) = false :=
      Bool.eq_false_iff.mpr fun hd => absurd ((canDispatch_iff _).mp hd).2 (Int.not_lt.mpr hspent)
    rw [run_of_ok hrun hok, runLoop_of_stopped hstopped,
      runCode_of_running (s := setCycles (s.cyclesAvailable + n) s) hrun]
    rfl

/-- A run on a positive balance takes one step and goes on with a fuel one less than the balance. -/
theorem run_eq_runLoop_after_step {n : Int} {s : State} (hrun : s.runState = .running)
    (hok : balanceOk (s.cyclesAvailable + n) = true) (hpositive : 0 < s.cyclesAvailable + n) :
    ∃ t fuel, step (setCycles (s.cyclesAvailable + n) s) = .next t ∧ run n s = runLoop fuel t ∧
      (fuel : Int) + 1 = s.cyclesAvailable + n ∧ balanceOk t.cyclesAvailable = true ∧
      (t.runState = .halted ∨ t.cyclesAvailable ≤ fuel) := by
  have hd : canDispatch (setCycles (s.cyclesAvailable + n) s) = true := (canDispatch_iff _).mpr ⟨hrun, hpositive⟩
  obtain ⟨t, hstep, htok, hprogress⟩ := step_of_dispatch hd hok
  obtain ⟨fuel, hfuel⟩ : ∃ fuel, (s.cyclesAvailable + n).toNat = fuel + 1 :=
    Nat.exists_eq_succ_of_ne_zero (by omega)
  refine ⟨t, fuel, hstep, ?_, by omega, htok, hprogress.imp_right fun hless => ?_⟩
  · rw [run_of_ok hrun hok, hfuel, runLoop_succ_of_step hd hstep]
  · rw [setCycles_cyclesAvailable] at hless
    omega

/-- Settles O23: the deposit leaves a balance of 1, so the loop has fuel for one turn. -/
theorem runSingleSteps : Obligations.RunSingleSteps := by
  intro s hrun
  have hbalance : s.cyclesAvailable + (1 - s.cyclesAvailable) = 1 := by omega
  obtain ⟨t, fuel, hstep, hloop, hfuel, -⟩ :=
    run_eq_runLoop_after_step (n := 1 - s.cyclesAvailable) hrun (by rw [hbalance]; rfl) (by omega)
  obtain rfl : fuel = 0 := by omega
  rw [hbalance] at hstep
  exact ⟨t, hstep, hloop⟩

/-- Settles O55: what is left of the fuel is enough for the balance that is left, which is the fuel of `run 0`. -/
theorem runIsOneStepThenTheRest : Obligations.RunIsOneStepThenTheRest := by
  intro n s hrun hok hpositive
  obtain ⟨t, fuel, hstep, hloop, -, htok, hprogress⟩ := run_eq_runLoop_after_step hrun hok hpositive
  refine ⟨t, hstep, hloop.trans ?_⟩
  by_cases hhalted : t.runState = .halted
  · rw [runLoop_of_stopped (canDispatch_of_halted hhalted), runCode_of_halted hhalted]
    exact (if_pos hhalted).symm
  · have hzero : t.cyclesAvailable + 0 = t.cyclesAvailable := Int.add_zero _
    rw [run_of_ok (runState_ne_halted hhalted) (hzero.symm ▸ htok), hzero]
    exact runLoop_eq_of_fuel htok (hprogress.resolve_left hhalted) (Int.self_le_toNat _)

end Sys2Proof.Proofs.Run
end

section
/-! The flag byte bit by bit (R27, R28) and the adder's carry and overflow as bounds on sums (R180, R182). -/

namespace Sys2Proof.Proofs.FlagByte

open Sys2Proof.Machine

/-! ### Pack and unpack -/

theorem getElem_flagBit (flag : Bool) {k j : Nat} (hj : j < 8) :
    (flagBit flag k)[j] = (flag && (decide (k < 8) && decide (k = j))) := by
  cases flag with
  | false => simp [flagBit]
  | true =>
    have hbit : flagBit true k = BitVec.twoPow 8 k := (BitVec.twoPow_eq 8 k).symm
    rw [hbit, ← BitVec.getLsbD_eq_getElem, BitVec.getLsbD_twoPow, Bool.true_and]

theorem unpack_pack (f : Flags) : unpack (pack f) = f := by
  simp [unpack, pack, getElem_flagBit]

theorem pack_unpack (b : Byte) : pack (unpack b) = b ||| 0x20 := by
  apply BitVec.eq_of_getLsbD_eq
  intro k hk
  interval_cases k <;> simp [unpack, pack, getElem_flagBit]

/-- A packed byte holds its flags and nothing else. -/
theorem eq_of_pack_eq {f g : Flags} (h : pack f = pack g) : f = g := by
  rw [← unpack_pack f, h, unpack_pack]

/-- Settles O30: each flag is one bit of the byte, and bit 5 is no flag's. -/
theorem unpackUndoesPack : Obligations.UnpackUndoesPack := ⟨unpack_pack, pack_unpack⟩

end Sys2Proof.Proofs.FlagByte
end

section
/-! Signed overflow and borrow (R180, R182): the XOR formula compares bits 7, and a complemented operand is 255 less
the operand. -/

namespace Sys2Proof.Proofs.Overflow

open Sys2Proof.Machine

theorem testBit_seven_eq (n : Nat) : n.testBit 7 = decide (n / 128 % 2 = 1) :=
  Nat.testBit_eq_decide_div_mod_eq

theorem and_mask_ne_zero_eq_testBit_seven (n : Nat) : (n &&& 0x80 != 0) = n.testBit 7 := by
  have hmask : n &&& 0x80 = 2 ^ 7 * (n.testBit 7).toNat := by rw [Nat.mul_comm]; exact Nat.and_two_pow n 7
  rw [hmask]
  cases n.testBit 7 <;> rfl

/-- The V formula (R180): the sum's bit 7 differs from both operands'. -/
theorem adcOverflow_eq (a m : Byte) (c : Bool) :
    adcOverflow a m c =
      ((a.toNat.testBit 7 ^^ (adcSum a m c).testBit 7) && (m.toNat.testBit 7 ^^ (adcSum a m c).testBit 7)) := by
  rw [adcOverflow, and_mask_ne_zero_eq_testBit_seven, Nat.testBit_and, Nat.testBit_xor, Nat.testBit_xor]

theorem toInt_eq (v : Byte) : v.toInt = if 128 ≤ v.toNat then (v.toNat : Int) - 256 else v.toNat := by
  rw [BitVec.toInt_eq_toNat_cond]
  split_ifs <;> omega

theorem adcOverflow_iff (a m : Byte) (c : Bool) :
    adcOverflow a m c = true ↔ a.toInt + m.toInt + c.toNat < -128 ∨ 127 < a.toInt + m.toInt + c.toNat := by
  have ha := a.isLt
  have hm := m.isLt
  have hc := c.toNat_le
  rw [adcOverflow_eq, testBit_seven_eq, testBit_seven_eq, testBit_seven_eq, toInt_eq, toInt_eq, adcSum]
  simp only [Bool.and_eq_true, bne_iff_ne, ne_eq, decide_eq_decide]
  split_ifs <;> omega

theorem complement_toNat (m : Byte) : (m ^^^ 0xFF).toNat = 255 - m.toNat := by
  have hnot : m ^^^ 0xFF = ~~~m := BitVec.xor_allOnes
  rw [hnot, BitVec.toNat_not]

theorem complement_toInt (m : Byte) : (m ^^^ 0xFF).toInt = -1 - m.toInt := by
  have hm := m.isLt
  rw [toInt_eq, toInt_eq, complement_toNat]
  split_ifs <;> omega

/-- Settles O31: a sum of signed bytes leaves the range when its sign is neither operand's, and subtracting is adding
the complement. -/
theorem overflowIsSignedOverflow : Obligations.OverflowIsSignedOverflow := by
  refine fun a m c => ⟨adcOverflow_iff a m c, ?_, ?_⟩
  · rw [adcOverflow_iff, complement_toInt]
    omega
  · have hm := m.isLt
    rw [adcCarry, decide_eq_true_iff, adcSum, complement_toNat]
    omega

end Sys2Proof.Proofs.Overflow
end

section
/-! SBC (R182): ADC8 on the complement of the operand is the subtraction with borrow. -/

namespace Sys2Proof.Proofs.Subtract

open Sys2Proof.Machine Sys2Proof.Spec Sys2Proof.Proofs.ReadShape Sys2Proof.Proofs.Load Sys2Proof.Proofs.Overflow

theorem sbcForm_isReadTable : IsReadTable sbcA sbcForm := by
  rintro (v | (z | z | z | w | w | w | z | z)) row ⟨⟩ <;> exact ⟨rfl, rfl, fun _ => rfl⟩

/-- What C takes from a difference: 1 without it, nothing with it. -/
theorem one_sub_carry_eq (c : Bool) : (1 - c.toNat : Int) = if c then 0 else 1 := by
  cases c <;> rfl

theorem sbcResult_eq (a m : Byte) (c : Bool) :
    ((adcResult a (m ^^^ 0xFF) c).toNat : Int) = ((a.toNat : Int) - m.toNat - if c then 0 else 1) % 256 := by
  have hm := m.isLt
  rw [← one_sub_carry_eq, adcResult_toNat, adcSum, complement_toNat]
  omega

theorem sbcCarry_eq (a m : Byte) (c : Bool) :
    adcCarry a (m ^^^ 0xFF) c = decide (0 ≤ (a.toNat : Int) - m.toNat - if c then 0 else 1) := by
  rw [← one_sub_carry_eq, Bool.eq_iff_iff, decide_eq_true_iff]
  exact (overflowIsSignedOverflow a m c).2.2

theorem sbcOverflow_eq (a m : Byte) (c : Bool) :
    adcOverflow a (m ^^^ 0xFF) c = decide (a.toInt - m.toInt - (if c then 0 else 1) < -128 ∨
      127 < a.toInt - m.toInt - if c then 0 else 1) := by
  rw [← one_sub_carry_eq, Bool.eq_iff_iff, decide_eq_true_iff]
  exact (overflowIsSignedOverflow a m c).2.1

/-- SBC on a state with the A, X, Y and flags of `s`, whatever its balance. -/
theorem sbcEffect_sbcA (m : Byte) {s u : State} (n : Int) (hsame : SameAXY s u) (hflags : u.flags = s.flags) :
    SbcEffect m s (setCycles n (sbcA m u)) := by
  obtain ⟨ha, hx, hy⟩ := hsame
  simp only [SbcEffect, ← ha, ← hflags, ← sbcCarry_eq, ← sbcOverflow_eq]
  exact ⟨sbcResult_eq u.a m u.flags.c, hx, hy, setNZ_eq_nz _ _⟩

/-- Settles O35: each form of SBC is ADC8 of A and its operand's complement, which is 255 less the operand. -/
theorem sbcSubtractsWithBorrow : Obligations.SbcSubtractsWithBorrow :=
  readResult_of_table sbcForm_isReadTable (fun _ _ => rfl) fun m _ _ n => sbcEffect_sbcA m n

end Sys2Proof.Proofs.Subtract
end

section
/-! STA, STX and STY (R163 to R165) over the frame of a store, and INC and DEC of memory (R190, R191) over that of a
read-modify-write. -/

namespace Sys2Proof.Proofs.StoreShape

open Sys2Proof.Machine Sys2Proof.Spec Sys2Proof.Proofs.IncDec Sys2Proof.Proofs.RmwShape Sys2Proof.Proofs.Bus

/-- A row of a form table that belongs to the instruction storing `src` at the operand `m`: its opcode, which pays for
no crossing (R145), and its meaning. -/
structure IsStoreRow (src : State → Byte) (m : MemOperand) (row : FormRow) : Prop where
  opcode_eq : opcode row.instr = row.op
  penalty_eq : pagePenalty row.op = false
  exec_eq : ∀ s, exec row.instr s = storeInstr row.op src m s

/-- A form table whose every row is the instruction storing `src`. -/
def IsStoreTable (src : State → Byte) (form : MemOperand → Option FormRow) : Prop :=
  ∀ m row, form m = some row → IsStoreRow src m row

theorem staForm_isStoreTable : IsStoreTable State.a staForm := by
  rintro (z | z | z | w | w | w | z | z) row ⟨⟩ <;> exact ⟨rfl, rfl, fun _ => rfl⟩

theorem stxForm_isStoreTable : IsStoreTable State.x stxForm := by
  rintro (z | z | z | w | w | w | z | z) row ⟨⟩ <;> exact ⟨rfl, rfl, fun _ => rfl⟩

theorem styForm_isStoreTable : IsStoreTable State.y styForm := by
  rintro (z | z | z | w | w | w | z | z) row ⟨⟩ <;> exact ⟨rfl, rfl, fun _ => rfl⟩

/-- A storing instruction completes with its frame in every form of its table, once each row is its own and the
register stored is one the fetch leaves alone. -/
theorem storeResult_of_table {form : MemOperand → Option FormRow} {src : State → Byte}
    (htable : IsStoreTable src form) (hsrc : ∀ n s, src (fetch n s) = src s) : StoreResult form src := by
  intro m row s hform hroom hmem
  obtain ⟨hop, hpenalty, hexec⟩ := htable m row hform
  have hnext := (hexec s).trans (storeInstr_of_room hroom)
  have hcharge := chargeOf_eq_baseCycles_of_not_penalised hpenalty (pageCross m s)
  refine ⟨_, hnext, hop, ?byte, ?frame, ?registers, ?sp, ?flags, ?pc, ?control, busAccessSequence _ _ _ hnext,
    congrArg (fun n : Nat => s.cyclesAvailable - n) hcharge⟩
  case byte => exact (Memory.read_write_same hmem _ _).trans (hsrc _ s)
  case frame => exact fun a hother => Memory.read_write_other hmem _ (List.ne_of_not_mem_cons hother)
  case registers => simp [SameAXY, storeEffect]
  case sp => simp [storeEffect]
  case flags => simp [storeEffect]
  case pc => simp [Advanced, storeEffect]
  case control => simp [SameControl, storeEffect]

/-- Settles O33: the three are one store, of A, X and Y. -/
theorem storesWriteTheirRegister : Obligations.StoresWriteTheirRegister :=
  ⟨storeResult_of_table staForm_isStoreTable fetch_a, storeResult_of_table stxForm_isStoreTable fetch_x,
    storeResult_of_table styForm_isStoreTable fetch_y⟩

theorem incForm_isRmwTable : IsRmwTable incByte incForm := by
  rintro (z | z | z | w | w | w | z | z) row ⟨⟩ <;> exact ⟨rfl, rfl, fun _ => rfl⟩

theorem decForm_isRmwTable : IsRmwTable decByte decForm := by
  rintro (z | z | z | w | w | w | z | z) row ⟨⟩ <;> exact ⟨rfl, rfl, fun _ => rfl⟩

/-- Settles O39: INC and DEC of memory compute what INX and DEX do of a register. -/
theorem incDecMemory : Obligations.IncDecMemory :=
  ⟨rmwResult_of_table incForm_isRmwTable incRel_add_one, rmwResult_of_table decForm_isRmwTable decRel_sub_one⟩

end Sys2Proof.Proofs.StoreShape
end

section
/-! The branches and JMP (R240 to R249): PC goes to its target, the charge is the row's, and nothing else changes. -/

namespace Sys2Proof.Proofs.Control

open Sys2Proof.Machine Sys2Proof.Spec Sys2Proof.Proofs.InstrShape Sys2Proof.Proofs.Charge

/-- With room, every instruction completes and is charged its debit. -/
theorem exec_of_room (i : Instr) {s : State} (hroom : HasRoom s) :
    ∃ t, exec i s = .next t ∧ Debited (debit i s) s t := by
  obtain ⟨-, hmax, -⟩ := debitLaw i s
  have hcompletes := completesExactlyWhenDebitFits i s
  rwa [if_pos (balanceOk_of_room hroom hmax)] at hcompletes

/-- With room, an instruction that is no branch and pays for no crossing completes and is charged its base. -/
theorem exec_of_room_of_base {i : Instr} {op : Byte} {cycles : Nat} (hop : opcode i = op) (hmode : i.mode ≠ .rel)
    (hplus : pagePenalty op = false) (hcycles : baseCycles op = cycles) {s : State} (hroom : HasRoom s) :
    ∃ t, exec i s = .next t ∧ Debited cycles s t := by
  have hdebit : debit i s = cycles := by
    rw [(debitLaw i s).2.2.2.1 hmode, hop, hplus, hcycles]
    rfl
  exact hdebit ▸ exec_of_room i hroom

/-! ### Branches -/

/-- The target of a branch (R112) as a sum of integers. -/
theorem branchTarget_eq_ofInt (next : Addr) (disp : Byte) :
    branchTarget next disp = BitVec.ofInt 16 (next.toNat + disp.toInt) := by
  rw [branchTarget, BitVec.ofInt_add, BitVec.ofInt_natCast, BitVec.ofNat_toNat, BitVec.setWidth_eq]
  rfl

/-- A row of the branch table that is the branch with condition `cond`. -/
structure IsBranchRow (row : BranchRow) (cond : Flags → Bool) : Prop where
  cond_eq : ∀ f, row.cond f = cond f
  opcode_eq : ∀ disp, opcode (row.instr disp) = row.op
  mode_eq : ∀ disp, (row.instr disp).mode = .rel
  operand_eq : ∀ disp, operandBytes (row.instr disp) = [disp]
  branchCond : ∀ disp, BranchCond (row.instr disp).mnemonic cond
  exec_eq : ∀ disp s, exec (row.instr disp) s = branch row.op cond disp s

theorem isBranchRow_of_mem {row : BranchRow} (h : row ∈ branchRows) : ∃ cond, IsBranchRow row cond := by
  fin_cases h
  · exact ⟨_, fun _ => beq_false _, fun _ => rfl, fun _ => rfl, fun _ => rfl, fun _ => .bcc, fun _ _ => rfl⟩
  · exact ⟨_, fun _ => beq_true _, fun _ => rfl, fun _ => rfl, fun _ => rfl, fun _ => .bcs, fun _ _ => rfl⟩
  · exact ⟨_, fun _ => beq_true _, fun _ => rfl, fun _ => rfl, fun _ => rfl, fun _ => .beq, fun _ _ => rfl⟩
  · exact ⟨_, fun _ => beq_true _, fun _ => rfl, fun _ => rfl, fun _ => rfl, fun _ => .bmi, fun _ _ => rfl⟩
  · exact ⟨_, fun _ => beq_false _, fun _ => rfl, fun _ => rfl, fun _ => rfl, fun _ => .bne, fun _ _ => rfl⟩
  · exact ⟨_, fun _ => beq_false _, fun _ => rfl, fun _ => rfl, fun _ => rfl, fun _ => .bpl, fun _ _ => rfl⟩
  · exact ⟨_, fun _ => beq_false _, fun _ => rfl, fun _ => rfl, fun _ => rfl, fun _ => .bvc, fun _ _ => rfl⟩
  · exact ⟨_, fun _ => beq_true _, fun _ => rfl, fun _ => rfl, fun _ => rfl, fun _ => .bvs, fun _ _ => rfl⟩

/-- Settles O43: a branch moves PC alone, and the debit law is the printed charge. -/
theorem branchesGoWhereTheySay : Obligations.BranchesGoWhereTheySay := by
  intro row hrow disp s hroom next target
  obtain ⟨cond, hcond, hop, hmode, hoperand, hbranch, hexec⟩ := isBranchRow_of_mem hrow
  have htarget : branchTarget (s.pc + 2) disp = target := branchTarget_eq_ofInt (s.pc + 2) disp
  have hdebit : debit (row.instr disp) s = branchCycles (row.cond s.flags) next target := by
    obtain ⟨taken, htaken, hdebit⟩ := (debitLaw (row.instr disp) s).2.2.1 (hmode disp)
    obtain rfl := Option.some.inj ((hbranch disp).branchCond?_eq s.flags |>.symm.trans htaken)
    have hnext : nextAddr (row.instr disp) s = next := by simp [nextAddr, Instr.length, hmode, AddrMode.length, next]
    rw [hdebit, hnext, hoperand, hcond, ← htarget]
    rfl
  obtain ⟨t, hnext, hbalance⟩ := exec_of_room (row.instr disp) hroom
  obtain ⟨n, rfl⟩ := branch_next_pc ((hexec disp s).symm.trans hnext)
  refine ⟨_, hnext, hop disp, ?pc, hdebit ▸ hbalance, by simp [SameAXY], by simp, by simp,
    by simp [SameMem, busRead_eq], by simp [SameControl]⟩
  case pc => rw [setCycles_pc, setPC_pc, branchPC, hcond, htarget]

/-! ### JMP -/

/-- Settles O44: both forms set PC alone; the pointer's high byte is read at the next address mod 2^16. -/
theorem jmpGoesToTarget : Obligations.JmpGoesToTarget := by
  refine ⟨fun w s hroom => ?_, fun ptr s hroom => ?_⟩
  · obtain ⟨t, hexec, hdebit⟩ := exec_of_room_of_base (i := .jmpAbs w) (op := 0x4C) rfl nofun rfl rfl hroom
    obtain ⟨-, rfl⟩ := charge_next (s := setPC w (fetch 3 s)) hexec
    exact ⟨_, hexec, rfl, by simp, hdebit, by simp [SameAXY], by simp, by simp, by simp [SameMem, busRead_eq],
      by simp [SameControl]⟩
  · obtain ⟨t, hexec, hdebit⟩ := exec_of_room_of_base (i := .jmpInd ptr) (op := 0x6C) rfl nofun rfl rfl hroom
    obtain ⟨-, rfl⟩ :=
      charge_next (s := setPC (jmpIndTarget false ptr s) (logReads [ptr, ptr + 1] (fetch 3 s))) hexec
    have hhigh : ptr + 1 = BitVec.ofNat 16 ((ptr.toNat + 1) % 65536) := by bv_omega
    refine ⟨_, hexec, rfl, ?pc, hdebit, by simp [SameAXY], by simp, by simp, by simp [SameMem, busRead_eq],
      by simp [SameControl]⟩
    case pc =>
      rw [← hhigh, Nat.add_comm]
      exact word16_toNat _ _

end Sys2Proof.Proofs.Control
end

section
/-! RTS and RTI (R251, R252): what they pull, and the round trip of JSR and RTS (95 section 2, property 8). -/

namespace Sys2Proof.Proofs.Return

open Sys2Proof.Machine Sys2Proof.Spec Sys2Proof.Proofs.Control Sys2Proof.Proofs.Jsr Sys2Proof.Proofs.PushWord
  Sys2Proof.Proofs.FlagByte

/-- A pulled word has its low byte one above SP and its high byte two above (R251). -/
theorem pullWord_fst (u : State) :
    (pullWord u).1 = word16 (busRead (stackAddr (u.sp + 2)) u) (busRead (stackAddr (u.sp + 1)) u) := by
  have htwo : u.sp + 1 + 1 = u.sp + 2 := BitVec.add_assoc u.sp 1 1
  rw [← htwo]
  rfl

/-- Settles O46: the word is pulled low byte first, and its address gains one. -/
theorem rtsReturnsPastPulledAddress : Obligations.RtsReturnsPastPulledAddress := by
  intro s hroom
  obtain ⟨t, hexec, hdebit⟩ := exec_of_room_of_base (i := .rts) (op := 0x60) rfl nofun rfl rfl hroom
  obtain ⟨-, rfl⟩ := implied_next (op := 0x60) (act := fun u => setPC ((pullWord u).1 + 1) (pullWord u).2) hexec
  refine ⟨_, hexec, rfl, ?pc, ?sp, by simp [SameAXY, pullWord], by simp [pullWord],
    by simp [SameMem, busRead_eq, pullWord], by simp [SameControl, pullWord], hdebit⟩
  case pc =>
    rw [setCycles_pc, setPC_pc, pullWord_fst, BitVec.toNat_add, word16_toNat, Nat.add_comm (256 * _)]
    rfl
  case sp => simp [pullWord, BitVec.add_assoc]

/-- Settles O47: the flags are unpacked from the first byte pulled, and PC is the word above it. -/
theorem rtiRestoresFlagsAndPc : Obligations.RtiRestoresFlagsAndPc := by
  intro s hroom
  obtain ⟨t, hexec, hdebit⟩ := exec_of_room_of_base (i := .rti) (op := 0x40) rfl nofun rfl rfl hroom
  obtain ⟨-, rfl⟩ := implied_next (op := 0x40) (act := trapReturn) hexec
  refine ⟨_, hexec, rfl, ?flags, ?pc, ?sp, by simp [SameAXY, trapReturn, pullWord],
    by simp [SameMem, busRead_eq, trapReturn, pullWord], by simp [SameControl, trapReturn, pullWord], hdebit⟩
  case flags =>
    have hflags : (trapReturn (fetch 1 s)).flags = unpack (busRead (stackAddr (s.sp + 1)) s) := by
      simp [trapReturn, pullWord]
    rw [setCycles_flags, hflags, pack_unpack]
  case pc =>
    have hpc : (trapReturn (fetch 1 s)).pc =
        word16 (busRead (stackAddr (s.sp + 3)) s) (busRead (stackAddr (s.sp + 2)) s) := by
      simp [trapReturn, pullWord, busRead_eq, BitVec.add_assoc]
    rw [setCycles_pc, hpc, word16_toNat, Nat.add_comm]
  case sp => simp [trapReturn, pullWord, BitVec.add_assoc]

/-- What JSR leaves for RTS: the two bytes above its SP are the return address, and SP is two lower. -/
theorem jsr_leaves_return_address {w : Addr} {s t : State} (hmem : s.mem.wf = true) (h : exec (.jsr w) s = .next t) :
    t.sp = s.sp - 2 ∧ busRead (stackAddr (t.sp + 1)) t = lo8 (s.pc + 2) ∧
      busRead (stackAddr (t.sp + 2)) t = hi8 (s.pc + 2) := by
  obtain ⟨-, rfl⟩ := charge_next (op := 0x20) (s := jsrEffect w s) h
  have hlow : s.sp - 2 + 1 = s.sp - 1 := by bv_omega
  have hhigh : s.sp - 2 + 2 = s.sp := by bv_omega
  refine ⟨jsrEffect_sp .., ?_, ?_⟩
  · rw [jsrEffect_sp, hlow, busRead_jsrEffect, busRead_pushWord_low hmem]
  · rw [jsrEffect_sp, hhigh, busRead_jsrEffect, busRead_pushWord_high hmem]

/-- Settles O54: RTS pulls the two bytes JSR pushed, the address of JSR's last byte, and goes one past it. -/
theorem jsrRtsReturns : Obligations.JsrRtsReturns := by
  intro w s t r hmem hjsr hsp hlow hhigh hroom
  obtain ⟨hpushed, hlowByte, hhighByte⟩ := jsr_leaves_return_address hmem hjsr
  obtain ⟨u, hrts, -, hpc, hpulled, -⟩ := rtsReturnsPastPulledAddress r hroom
  refine ⟨u, hrts, ?_, ?_⟩
  · rw [hlow, hhigh, hsp, hlowByte, hhighByte, lo8_toNat, hi8_toNat] at hpc
    bv_omega
  · rw [hpulled, hsp, hpushed, BitVec.sub_add_cancel]

end Sys2Proof.Proofs.Return
end

section
/-! BRK (R253, R304): the three bytes of its trap entry, and the halt. -/

namespace Sys2Proof.Proofs.Break

open Sys2Proof.Machine Sys2Proof.Spec Sys2Proof.Proofs.Control Sys2Proof.Proofs.PushWord Sys2Proof.Proofs.Stack
  Sys2Proof.Proofs.Frame

section
variable {u : State} (hmem : u.mem.wf = true)

theorem busRead_trapEntry (a : Addr) : busRead a (trapEntry u) = busRead a (push (pack u.flags) (pushWord u.pc u)) := by
  simp [busRead_eq, trapEntry]

theorem pushWord_sp_eq_sub_two (w : Addr) : (pushWord w u).sp = u.sp - 2 :=
  BitVec.sub_sub u.sp 1 1

include hmem

theorem pushWord_mem_wf (w : Addr) : (pushWord w u).mem.wf = true :=
  push_mem_wf (push_mem_wf hmem (hi8 w)) (lo8 w)

theorem busRead_trapEntry_flags : busRead (stackAddr (u.sp - 2)) (trapEntry u) = pack u.flags := by
  rw [busRead_trapEntry, ← pushWord_sp_eq_sub_two u.pc, busRead_push_same (pushWord_mem_wf hmem u.pc)]

/-- The flag byte, pushed last, spares the pushed PC. -/
theorem busRead_trapEntry_other {sp : Byte} (hsp : sp ≠ u.sp - 2) :
    busRead (stackAddr sp) (trapEntry u) = busRead (stackAddr sp) (pushWord u.pc u) := by
  have hother : stackAddr sp ∉ [stackAddr (pushWord u.pc u).sp] := by
    rwa [List.mem_singleton, stackAddr_inj, pushWord_sp_eq_sub_two]
  rw [busRead_trapEntry, push_sameMemExcept (pushWord_mem_wf hmem u.pc) _ _ hother]

end

/-- Settles O48: the trap entry pushes the advanced PC and the old flags, then sets B and enters HALTED. -/
theorem brkSavesStateAndHalts : Obligations.BrkSavesStateAndHalts := by
  intro s hroom hmem
  obtain ⟨t, hexec, hdebit⟩ := exec_of_room_of_base (i := .brk) (op := 0x00) rfl nofun rfl rfl hroom
  have hframe := memoryChangesOnlyWhereStored .brk s t hmem hexec
  obtain ⟨-, rfl⟩ := implied_next (op := 0x00) (act := trapEntry) hexec
  refine ⟨_, hexec, rfl, by simp [Advanced, trapEntry], ?high, ?low, ?flagByte, hframe, ?sp, by simp [trapEntry],
    by simp [SameAXY, trapEntry], rfl, rfl, by simp [trapEntry], hdebit⟩
  case high =>
    have hbyte : busRead (stackAddr s.sp) (trapEntry (fetch 1 s)) = hi8 (s.pc + 1) :=
      (busRead_trapEntry_other (u := fetch 1 s) hmem (by rw [fetch_sp]; bv_omega)).trans
        (busRead_pushWord_high (s := fetch 1 s) hmem _)
    exact (congrArg BitVec.toNat hbyte).trans (hi8_toNat _)
  case low =>
    have hbyte : busRead (stackAddr (s.sp - 1)) (trapEntry (fetch 1 s)) = lo8 (s.pc + 1) :=
      (busRead_trapEntry_other (u := fetch 1 s) hmem (by rw [fetch_sp]; bv_omega)).trans
        (busRead_pushWord_low (s := fetch 1 s) hmem _)
    exact (congrArg BitVec.toNat hbyte).trans (lo8_toNat _)
  case flagByte => exact busRead_trapEntry_flags (u := fetch 1 s) hmem
  case sp => simp [trapEntry, BitVec.sub_sub]

end Sys2Proof.Proofs.Break
end

section
/-! PHP and PLP (R271, R273): the push and the pull of the flag byte, and their round trip (95 section 2, property 7).
-/

namespace Sys2Proof.Proofs.PushFlags

open Sys2Proof.Machine Sys2Proof.Spec Sys2Proof.Proofs.Stack Sys2Proof.Proofs.PushPull Sys2Proof.Proofs.FlagByte

theorem phpResult : PushResult .php 0x08 fun s => pack s.flags :=
  pushResult_of_exec (fun _ => rfl) (fun _ => rfl) rfl rfl

theorem plpResult : ImpliedResult .plp 0x28 4 fun s t =>
    t.sp.toNat = (s.sp.toNat + 1) % 256 ∧ pack t.flags = busRead (stackAddr t.sp) s ||| 0x20 ∧ SameAXY s t :=
  pullResult_of_exec (act := fun v u => setFlags (unpack v) u) rfl (fun _ => rfl) rfl (fun _ _ => rfl) fun s _ =>
    ⟨by simp, pack_unpack _, by simp [SameAXY]⟩

/-- Settles O50: the pull reads where the push has written, and bit 5, which it forces, is set in a packed byte. -/
theorem phpPushesAndPlpPulls : Obligations.PhpPushesAndPlpPulls := by
  refine ⟨phpResult, plpResult, fun s t f hmem hphp hroom => ?_⟩
  obtain ⟨hpush, hbyte⟩ := pushed_of_exec_next (value := fun s => pack s.flags) (fun _ => rfl) (fun _ => rfl) hmem hphp
  obtain ⟨u, hplp, -, ⟨hpull, hflags, -⟩, -⟩ := plpResult { t with flags := f } hroom
  have hsp : u.sp = s.sp := sp_eq_of_push_of_pull hpush hpull
  refine ⟨u, hplp, eq_of_pack_eq ?_, hsp⟩
  calc pack u.flags
      = busRead (stackAddr u.sp) t ||| 0x20 := hflags
    _ = pack s.flags ||| 0x20 := by rw [hsp, hbyte]
    _ = pack s.flags := by rw [← pack_unpack, unpack_pack]

end Sys2Proof.Proofs.PushFlags
end

section
/-! The printed cycle table (R144) against the decoder, the base cycles and the page penalty, cell by cell. -/

namespace Sys2Proof.Proofs.CycleTable

open Sys2Proof.Machine Sys2Proof.Spec

/-- The decoder and the two cycle tables agree with a row's cells. -/
def Agrees (row : CycleRow) : Prop :=
  ∀ cell ∈ row.cells,
    (decodeOp cell.op 0 0).map (fun i => (i.mnemonic, i.mode)) = some (row.mnemonic, cell.mode) ∧
      baseCycles cell.op = cell.cycles ∧ pagePenalty cell.op = cell.plus

/-- A byte outside the table is charged nothing. -/
theorem uncharged_of_mem_unknownOpcodes {op : Byte} (h : op ∈ unknownOpcodes) :
    baseCycles op = 0 ∧ pagePenalty op = false := by
  fin_cases h <;> exact ⟨rfl, rfl⟩

/-- Settles O5: the four parts of the table are checked cell by cell. -/
theorem cycleTableAsPrinted : Obligations.CycleTableAsPrinted := by
  have hA : ∀ row ∈ cycleRowsA, Agrees row := by unfold Agrees; decide
  have hB : ∀ row ∈ cycleRowsB, Agrees row := by unfold Agrees; decide
  have hC : ∀ row ∈ cycleRowsC, Agrees row := by unfold Agrees; decide
  have hD : ∀ row ∈ cycleRowsD, Agrees row := by unfold Agrees; decide
  refine ⟨fun row hrow => ?_, fun _ => uncharged_of_mem_unknownOpcodes⟩
  simp only [cycleTable, List.mem_append] at hrow
  obtain ((h | h) | h) | h := hrow
  · exact hA row h
  · exact hB row h
  · exact hC row h
  · exact hD row h

end Sys2Proof.Proofs.CycleTable
end
